-- ==== Sys2Proof/Word.lean ====
section
/-! DEFINITION. Bytes, and the fixed collections of the part: one value for each station, one value
for each zone. -/

namespace Sys2Proof

/-- One byte of a link. -/
abbrev Byte := BitVec 8

/-- The three stations, each with a link of its own (00_scope, "The three stations"). -/
inductive Station
  | press
  | loader
  | supervisor
deriving DecidableEq, Repr

/-- One value for each station. -/
structure PerStation (α : Type) where
  press : α
  loader : α
  supervisor : α
deriving DecidableEq, Repr

/-- The value of one station. -/
def PerStation.get {α : Type} (p : PerStation α) : Station → α
  | .press => p.press
  | .loader => p.loader
  | .supervisor => p.supervisor

/-- Replace the value of one station. -/
def PerStation.set {α : Type} (p : PerStation α) (st : Station) (a : α) : PerStation α :=
  match st with
  | .press => { p with press := a }
  | .loader => { p with loader := a }
  | .supervisor => { p with supervisor := a }

/-- Apply a function to the value of every station. -/
def PerStation.map {α β : Type} (f : α → β) (p : PerStation α) : PerStation β :=
  { press := f p.press, loader := f p.loader, supervisor := f p.supervisor }

/-- The zones, numbered 1 (at the entry) to 8 (at the exit); also the inverter channels. -/
inductive ZoneNo
  | z1
  | z2
  | z3
  | z4
  | z5
  | z6
  | z7
  | z8
deriving DecidableEq, Repr

/-- The zones from the entry to the exit. -/
def ZoneNo.all : List ZoneNo := [.z1, .z2, .z3, .z4, .z5, .z6, .z7, .z8]

/-- The zone's number, 1 to 8. -/
def ZoneNo.number : ZoneNo → Nat
  | .z1 => 1
  | .z2 => 2
  | .z3 => 3
  | .z4 => 4
  | .z5 => 5
  | .z6 => 6
  | .z7 => 7
  | .z8 => 8

/-- The zone of a number; none outside 1 to 8. -/
def ZoneNo.ofNumber : Nat → Option ZoneNo
  | 1 => some .z1
  | 2 => some .z2
  | 3 => some .z3
  | 4 => some .z4
  | 5 => some .z5
  | 6 => some .z6
  | 7 => some .z7
  | 8 => some .z8
  | _ => none

/-- The zone after this one, none after zone 8. -/
def ZoneNo.next (z : ZoneNo) : Option ZoneNo := ZoneNo.ofNumber (z.number + 1)

/-- One value for each zone. -/
structure PerZone (α : Type) where
  z1 : α
  z2 : α
  z3 : α
  z4 : α
  z5 : α
  z6 : α
  z7 : α
  z8 : α
deriving DecidableEq, Repr

/-- The value of one zone. -/
def PerZone.get {α : Type} (p : PerZone α) : ZoneNo → α
  | .z1 => p.z1
  | .z2 => p.z2
  | .z3 => p.z3
  | .z4 => p.z4
  | .z5 => p.z5
  | .z6 => p.z6
  | .z7 => p.z7
  | .z8 => p.z8

/-- Replace the value of one zone. -/
def PerZone.set {α : Type} (p : PerZone α) (z : ZoneNo) (a : α) : PerZone α :=
  match z with
  | .z1 => { p with z1 := a }
  | .z2 => { p with z2 := a }
  | .z3 => { p with z3 := a }
  | .z4 => { p with z4 := a }
  | .z5 => { p with z5 := a }
  | .z6 => { p with z6 := a }
  | .z7 => { p with z7 := a }
  | .z8 => { p with z8 := a }

/-- The values that a function gives the zones. -/
def PerZone.tabulate {α : Type} (f : ZoneNo → α) : PerZone α :=
  { z1 := f .z1, z2 := f .z2, z3 := f .z3, z4 := f .z4,
    z5 := f .z5, z6 := f .z6, z7 := f .z7, z8 := f .z8 }

/-- The same value for every zone. -/
def PerZone.const {α : Type} (a : α) : PerZone α := PerZone.tabulate fun _ => a

/-- The values in zone order. -/
def PerZone.toList {α : Type} (p : PerZone α) : List α :=
  [p.z1, p.z2, p.z3, p.z4, p.z5, p.z6, p.z7, p.z8]

/-- The sum over the eight zones. -/
def PerZone.total (p : PerZone Nat) : Nat := p.toList.sum

end Sys2Proof
end

