-- ==== Sys2Proof/Syntax.lean ====
section
/-! DEFINITION. The commands and events of the part: one constructor of `Instr` for each row of the
opcode table, with the row's operands. -/

namespace Sys2Proof

/-- The two pyrometers: A looks into the row, B at the gate front (R94). -/
inductive Pyro
  | a
  | b
deriving DecidableEq, Repr

/-- One entry of a round record: joules, or VOID (R32). -/
inductive Entry
  | energy (joules : Nat)
  | void
deriving DecidableEq, Repr

/-- The eight zone energies of one round (R32). -/
abbrev RoundRecord := PerZone Entry

/-- What a request frame of a known command carries after CMD (R150, check 3): its items, when LEN is
a length the command table gives, or the LEN that is none of them. -/
inductive Sent (α : Type)
  | items (a : α)
  | wrongLength (len : Nat)
deriving DecidableEq, Repr

/-- The four address bytes of EXAMINE and DEPOSIT (R127, R150): form 0 explicit, 1 NEXT, 2 PREV,
3 SAME; the last three are ignored for forms 1 to 3. -/
structure AddressForm where
  form : Nat
  table : Nat
  record : Nat
  field : Nat
deriving DecidableEq, Repr

/-- The items of DEPOSIT (R129). -/
structure DepositArgs where
  address : AddressForm
  value : Nat
deriving DecidableEq, Repr

/-- The 23 writable fields of a recipe, in field-number order (R124). -/
structure RecipeFields where
  cap : Nat
  surf : Nat
  skin : Nat
  cond : Nat
  loss : Nat
  lnom : Nat
  tz : PerZone Nat
  tsLo : Nat
  tsHi : Nat
  tcMin : Nat
  tsMax : Nat
  holdT : Nat
  holdH : Nat
  maxDwell : Nat
  spacers : Nat
  acceptMeasured : Nat
deriving DecidableEq, Repr

/-- The items of LOAD RECIPE (R132). -/
structure LoadArgs where
  slot : Nat
  fields : RecipeFields
deriving DecidableEq, Repr

/-- The items of MAP (R28). -/
structure MapArgs where
  first : Nat
  count : Nat
deriving DecidableEq, Repr

/-- The items of PUSH REQUEST (R13); the entry temperature, in tenths of a degree, may be absent. -/
structure PushArgs where
  tag : Nat
  recipe : Nat
  length : Nat
  entryTemp : Option Nat
deriving DecidableEq, Repr

/-- The items of PUSH DONE (R16). -/
structure PushDoneArgs where
  tag : Nat
  stroke : Nat
deriving DecidableEq, Repr

/-- The items of LOT OPEN (R136). -/
structure LotOpenArgs where
  recipe : Nat
  count : Nat
deriving DecidableEq, Repr

/-- The nine bytes of an inverter reply frame, field by field (R77). -/
structure InverterFrame where
  start : Nat
  channel : Nat
  status : Nat
  energy : Nat
  meanPower : Nat
  check : Nat
deriving DecidableEq, Repr

/-- A measurement correction handed to EST (R47): the record's tag, the source, and the sample,
none for VOID. -/
structure Correction where
  tag : Nat
  source : Pyro
  sample : Option Nat
deriving DecidableEq, Repr

/-- The commands and events, one constructor for each row of the opcode table, in the table's order.
A station command carries the station whose link it came over. -/
inductive Instr
  /-- POWER_ON_RESET (R9): the RESET pin or the supply; the value of the four straps (R148). -/
  | powerOnReset (straps : BitVec 4)
  /-- BREAK (R152). -/
  | linkBreak (st : Station)
  /-- PRESS_LINK_RESET (R120). -/
  | pressLinkReset
  /-- FRAME_RECEIVED (R147): the bytes that arrive without a line fault, up to the end of the frame. -/
  | frameReceived (st : Station) (bytes : List Byte)
  /-- FRAME_GAP_TIMEOUT (R147). -/
  | frameGapTimeout (st : Station)
  /-- UNKNOWN_COMMAND (R150): a taken frame with this CMD. -/
  | unknownCommand (st : Station) (cmd : Byte)
  /-- REPLY_START (R144), on the supervisor link. -/
  | replyStart
  /-- REPLY_SENT (R150). -/
  | replySent (st : Station)
  /-- NOTICE_READ (R156). -/
  | noticeRead (st : Station) (p : Sent Unit)
  /-- NOTICE_CLEAR (R157). -/
  | noticeClear (st : Station) (p : Sent (BitVec 16))
  /-- NOTICE_MASK (R158). -/
  | noticeMask (st : Station) (p : Sent (BitVec 16))
  /-- EXAMINE (R128). -/
  | examine (st : Station) (p : Sent AddressForm)
  /-- DEPOSIT (R129). -/
  | deposit (st : Station) (p : Sent DepositArgs)
  /-- LOAD_RECIPE (R132). -/
  | loadRecipe (st : Station) (p : Sent LoadArgs)
  /-- MAP (R28). -/
  | map (st : Station) (p : Sent MapArgs)
  /-- BILLET (R29): a tag. -/
  | billet (st : Station) (p : Sent Nat)
  /-- CLASSIFY (R30): a class mask. -/
  | classify (st : Station) (p : Sent (BitVec 16))
  /-- PUSH_REQUEST (R13). -/
  | pushRequest (st : Station) (p : Sent PushArgs)
  /-- PUSH_DONE (R16). -/
  | pushDone (st : Station) (p : Sent PushDoneArgs)
  /-- PUSH_CANCEL (R19): a tag. -/
  | pushCancel (st : Station) (p : Sent Nat)
  /-- PUSH_TIMER_EXPIRY (R20). -/
  | pushTimerExpiry
  /-- RESYNC (R23): a decision, 1 applied, 0 not applied. -/
  | resync (st : Station) (p : Sent Nat)
  /-- PURGE (R25). -/
  | purge (st : Station) (p : Sent Unit)
  /-- RESERVE (R111). -/
  | reserve (st : Station) (p : Sent Unit)
  /-- TAKE (R114): a tag. -/
  | take (st : Station) (p : Sent Nat)
  /-- DISCARD (R116): a tag. -/
  | discard (st : Station) (p : Sent Nat)
  /-- CADENCE (R61): a cycle in tenths of a second. -/
  | cadence (st : Station) (p : Sent Nat)
  /-- RUN (R54). -/
  | run (st : Station) (p : Sent Unit)
  /-- STOP (R55). -/
  | stop (st : Station) (p : Sent Unit)
  /-- ZONE_RESTORE (R88): a zone number. -/
  | zoneRestore (st : Station) (p : Sent Nat)
  /-- DISPATCH_STATUS (R76). -/
  | dispatchStatus (st : Station) (p : Sent Unit)
  /-- LOT_OPEN (R136). -/
  | lotOpen (st : Station) (p : Sent LotOpenArgs)
  /-- LOT_ADJUST (R137): a step, signed. -/
  | lotAdjust (st : Station) (p : Sent (BitVec 8))
  /-- LOT_ABORT (R138). -/
  | lotAbort (st : Station) (p : Sent Unit)
  /-- LOT_STATUS (R142). -/
  | lotStatus (st : Station) (p : Sent Unit)
  /-- PERMIT_LOST (R56). -/
  | permitLost
  /-- PERMIT_PRESENT (R56). -/
  | permitPresent
  /-- DISPATCH_TIMER_EXPIRY (R59). -/
  | dispatchTimerExpiry
  /-- INVERTER_REPLY (R82): a reply frame within the window. -/
  | inverterReply (r : InverterFrame)
  /-- REPLY_WINDOW_CLOSE (R82). -/
  | replyWindowClose
  /-- ROUND_RECORD (R32). -/
  | roundRecord (r : RoundRecord)
  /-- PYROMETER_SAMPLE (R92, R93): the bytes that arrive without a line fault, up to the check byte. -/
  | pyrometerSample (src : Pyro) (bytes : List Byte)
  /-- PYRO_BYTE_TIMEOUT (R92). -/
  | pyroByteTimeout (src : Pyro)
  /-- MEASUREMENT_CORRECTION (R47). -/
  | measurementCorrection (c : Correction)
  /-- SETTLE_TIMER_EXPIRY (R99). -/
  | settleTimerExpiry
  /-- WAIT_TIMER_EXPIRY (R100). -/
  | waitTimerExpiry
  /-- LAPSE_TIMER_EXPIRY (R113). -/
  | lapseTimerExpiry
  /-- FRAME_START (R147): a byte 0xA5. -/
  | frameStart (st : Station)
  /-- PARITY_ERROR (R147). -/
  | parityError (st : Station)
  /-- BREAK_END (R152). -/
  | breakEnd (st : Station)
  /-- SAMPLE_FRAME_START (R92): a byte 0xC3. -/
  | sampleFrameStart (src : Pyro)
  /-- DROPPED_FRAME (R92): a byte with its stop bit at space arrives. A frame whose four bytes do not sum
  to 0 is dropped when its fourth byte arrives. -/
  | droppedFrame (src : Pyro)
deriving DecidableEq, Repr

end Sys2Proof
end

