-- ==== Sys2Proof/Decode.lean ====
section
/-! DEFINITION. Request frames and commands: the byte helpers, the command table of R150, the command
that a frame's CMD and payload name (`decodeRequest`), the CMD and payload of a command
(`encodeRequest`), and `decodeTableWord`. -/

namespace Sys2Proof

/-- `v` in `n` bytes, least significant byte first (R146; 00_scope, "Numbers and frames"). -/
def leBytes : Nat → Nat → List Byte
  | 0, _ => []
  | n + 1, v => BitVec.ofNat 8 v :: leBytes n (v / 256)

/-- The number that bytes carry, least significant byte first. -/
def ofLeBytes : List Byte → Nat
  | [] => 0
  | b :: bs => b.toNat + 256 * ofLeBytes bs

/-- The number in the `n` bytes of `p` that begin at offset `off`. -/
def numAt (p : List Byte) (off n : Nat) : Nat := ofLeBytes ((p.drop off).take n)

/-- The sum of bytes modulo 256. -/
def byteSum (bytes : List Byte) : Byte := bytes.foldl (fun a b => a + b) 0

/-- The check byte that makes the sum 0 modulo 256 (R77, R145, R146). -/
def checkByte (bytes : List Byte) : Byte := -(byteSum bytes)

/-- One line of the command table of R150: the code, the stations that may issue the command, and the
values of LEN. -/
structure CommandRow where
  code : Nat
  press : Bool
  loader : Bool
  supervisor : Bool
  lens : List Nat
deriving DecidableEq, Repr

/-- The command table of R150. -/
def commandTable : List CommandRow := [
  ⟨0x01, true, true, true, [2]⟩,      -- NOTICE READ
  ⟨0x02, true, true, true, [4]⟩,      -- NOTICE CLEAR
  ⟨0x03, true, true, true, [4]⟩,      -- NOTICE MASK
  ⟨0x08, true, true, true, [6]⟩,      -- EXAMINE
  ⟨0x09, false, false, true, [10]⟩,   -- DEPOSIT
  ⟨0x0A, false, false, true, [45]⟩,   -- LOAD RECIPE
  ⟨0x10, true, true, true, [4]⟩,      -- MAP
  ⟨0x11, true, true, true, [4]⟩,      -- BILLET
  ⟨0x12, true, true, true, [4]⟩,      -- CLASSIFY
  ⟨0x18, false, true, false, [7, 9]⟩, -- PUSH REQUEST
  ⟨0x19, false, true, false, [6]⟩,    -- PUSH DONE
  ⟨0x1A, false, true, false, [4]⟩,    -- PUSH CANCEL
  ⟨0x1C, false, false, true, [3]⟩,    -- RESYNC
  ⟨0x1D, false, false, true, [2]⟩,    -- PURGE
  ⟨0x20, true, false, false, [2]⟩,    -- RESERVE
  ⟨0x21, true, false, false, [4]⟩,    -- TAKE
  ⟨0x22, true, false, false, [4]⟩,    -- DISCARD
  ⟨0x23, true, false, false, [4]⟩,    -- CADENCE
  ⟨0x28, false, false, true, [2]⟩,    -- RUN
  ⟨0x29, false, false, true, [2]⟩,    -- STOP
  ⟨0x2A, false, false, true, [3]⟩,    -- ZONE RESTORE
  ⟨0x2B, true, true, true, [2]⟩,      -- DISPATCH STATUS
  ⟨0x30, false, false, true, [5]⟩,    -- LOT OPEN
  ⟨0x31, false, true, true, [3]⟩,     -- LOT ADJUST
  ⟨0x32, false, false, true, [2]⟩,    -- LOT ABORT
  ⟨0x33, true, true, true, [2]⟩]      -- LOT STATUS

/-- The table's line for a code (R150, check 1). -/
def commandRow (code : Nat) : Option CommandRow := commandTable.find? fun r => r.code == code

/-- Whether the table permits the command to the station (R150, check 2). -/
def CommandRow.permits (r : CommandRow) : Station → Bool
  | .press => r.press
  | .loader => r.loader
  | .supervisor => r.supervisor

/-- Whether a station may issue the command of a code (R150, check 2). -/
def permitted (code : Nat) (st : Station) : Bool := ((commandRow code).map (·.permits st)).getD false

/-- The values of LEN that the table gives a code (R150, check 3). -/
def commandLens (code : Nat) : List Nat := ((commandRow code).map (·.lens)).getD []

/-- The code of a station command; none for the events, and for UNKNOWN_COMMAND, whose code is in no
line of the table. -/
def Instr.code : Instr → Option Nat
  | .noticeRead _ _ => some 0x01
  | .noticeClear _ _ => some 0x02
  | .noticeMask _ _ => some 0x03
  | .examine _ _ => some 0x08
  | .deposit _ _ => some 0x09
  | .loadRecipe _ _ => some 0x0A
  | .map _ _ => some 0x10
  | .billet _ _ => some 0x11
  | .classify _ _ => some 0x12
  | .pushRequest _ _ => some 0x18
  | .pushDone _ _ => some 0x19
  | .pushCancel _ _ => some 0x1A
  | .resync _ _ => some 0x1C
  | .purge _ _ => some 0x1D
  | .reserve _ _ => some 0x20
  | .take _ _ => some 0x21
  | .discard _ _ => some 0x22
  | .cadence _ _ => some 0x23
  | .run _ _ => some 0x28
  | .stop _ _ => some 0x29
  | .zoneRestore _ _ => some 0x2A
  | .dispatchStatus _ _ => some 0x2B
  | .lotOpen _ _ => some 0x30
  | .lotAdjust _ _ => some 0x31
  | .lotAbort _ _ => some 0x32
  | .lotStatus _ _ => some 0x33
  | .powerOnReset _ => none
  | .linkBreak _ => none
  | .pressLinkReset => none
  | .frameReceived _ _ => none
  | .frameGapTimeout _ => none
  | .unknownCommand _ _ => none
  | .replyStart => none
  | .replySent _ => none
  | .pushTimerExpiry => none
  | .permitLost => none
  | .permitPresent => none
  | .dispatchTimerExpiry => none
  | .inverterReply _ => none
  | .replyWindowClose => none
  | .roundRecord _ => none
  | .pyrometerSample _ _ => none
  | .pyroByteTimeout _ => none
  | .measurementCorrection _ => none
  | .settleTimerExpiry => none
  | .waitTimerExpiry => none
  | .lapseTimerExpiry => none
  | .frameStart _ => none
  | .parityError _ => none
  | .breakEnd _ => none
  | .sampleFrameStart _ => none
  | .droppedFrame _ => none

/-- The items of a payload whose LEN (payload and two bytes) the table gives the code, else the LEN
(R150, check 3). -/
def sentItems {α : Type} (code : Nat) (parse : List Byte → α) (p : List Byte) : Sent α :=
  if p.length + 2 ∈ commandLens code then .items (parse p) else .wrongLength (p.length + 2)

/-- The four address bytes (R150). -/
def parseAddress (p : List Byte) : AddressForm :=
  { form := numAt p 0 1, table := numAt p 1 1, record := numAt p 2 1, field := numAt p 3 1 }

/-- The items of DEPOSIT (R150). -/
def parseDeposit (p : List Byte) : DepositArgs := { address := parseAddress p, value := numAt p 4 4 }

/-- The items of LOAD RECIPE, at the offsets of R132. -/
def parseLoad (p : List Byte) : LoadArgs :=
  { slot := numAt p 0 1
    fields :=
      { cap := numAt p 1 4, surf := numAt p 5 1, skin := numAt p 6 1, cond := numAt p 7 2
        loss := numAt p 9 1, lnom := numAt p 10 2
        tz :=
          { z1 := numAt p 12 2, z2 := numAt p 14 2, z3 := numAt p 16 2, z4 := numAt p 18 2
            z5 := numAt p 20 2, z6 := numAt p 22 2, z7 := numAt p 24 2, z8 := numAt p 26 2 }
        tsLo := numAt p 28 2, tsHi := numAt p 30 2, tcMin := numAt p 32 2, tsMax := numAt p 34 2
        holdT := numAt p 36 2, holdH := numAt p 38 1, maxDwell := numAt p 39 2
        spacers := numAt p 41 1, acceptMeasured := numAt p 42 1 } }

/-- The items of PUSH REQUEST: with LEN 7 the entry temperature is absent (R150). DESIGN CHOICE (log 33):
with LEN 9 it is present whatever its two bytes are, so that 0xFFFF is the number 65535 and not the
absent form of R146. -/
def parsePush (p : List Byte) : PushArgs :=
  { tag := numAt p 0 2, recipe := numAt p 2 1, length := numAt p 3 2
    entryTemp := if p.length = 7 then some (numAt p 5 2) else none }

/-- The command that the CMD and payload of a frame of a station name (R150). A CMD that the table
does not list gives UNKNOWN_COMMAND. -/
def decodeRequest (st : Station) (cmd : Byte) (p : List Byte) : Instr :=
  match cmd.toNat with
  | 0x01 => .noticeRead st (sentItems 0x01 (fun _ => ()) p)
  | 0x02 => .noticeClear st (sentItems 0x02 (fun p => BitVec.ofNat 16 (numAt p 0 2)) p)
  | 0x03 => .noticeMask st (sentItems 0x03 (fun p => BitVec.ofNat 16 (numAt p 0 2)) p)
  | 0x08 => .examine st (sentItems 0x08 parseAddress p)
  | 0x09 => .deposit st (sentItems 0x09 parseDeposit p)
  | 0x0A => .loadRecipe st (sentItems 0x0A parseLoad p)
  | 0x10 => .map st (sentItems 0x10 (fun p => { first := numAt p 0 1, count := numAt p 1 1 }) p)
  | 0x11 => .billet st (sentItems 0x11 (fun p => numAt p 0 2) p)
  | 0x12 => .classify st (sentItems 0x12 (fun p => BitVec.ofNat 16 (numAt p 0 2)) p)
  | 0x18 => .pushRequest st (sentItems 0x18 parsePush p)
  | 0x19 => .pushDone st (sentItems 0x19 (fun p => { tag := numAt p 0 2, stroke := numAt p 2 2 }) p)
  | 0x1A => .pushCancel st (sentItems 0x1A (fun p => numAt p 0 2) p)
  | 0x1C => .resync st (sentItems 0x1C (fun p => numAt p 0 1) p)
  | 0x1D => .purge st (sentItems 0x1D (fun _ => ()) p)
  | 0x20 => .reserve st (sentItems 0x20 (fun _ => ()) p)
  | 0x21 => .take st (sentItems 0x21 (fun p => numAt p 0 2) p)
  | 0x22 => .discard st (sentItems 0x22 (fun p => numAt p 0 2) p)
  | 0x23 => .cadence st (sentItems 0x23 (fun p => numAt p 0 2) p)
  | 0x28 => .run st (sentItems 0x28 (fun _ => ()) p)
  | 0x29 => .stop st (sentItems 0x29 (fun _ => ()) p)
  | 0x2A => .zoneRestore st (sentItems 0x2A (fun p => numAt p 0 1) p)
  | 0x2B => .dispatchStatus st (sentItems 0x2B (fun _ => ()) p)
  | 0x30 => .lotOpen st (sentItems 0x30 (fun p => { recipe := numAt p 0 1, count := numAt p 1 2 }) p)
  | 0x31 => .lotAdjust st (sentItems 0x31 (fun p => BitVec.ofNat 8 (numAt p 0 1)) p)
  | 0x32 => .lotAbort st (sentItems 0x32 (fun _ => ()) p)
  | 0x33 => .lotStatus st (sentItems 0x33 (fun _ => ()) p)
  | _ => .unknownCommand st cmd

/-- The address bytes of a form. -/
def addressBytes (a : AddressForm) : List Byte :=
  leBytes 1 a.form ++ leBytes 1 a.table ++ leBytes 1 a.record ++ leBytes 1 a.field

/-- The 43 bytes of LOAD RECIPE (R132). -/
def loadBytes (a : LoadArgs) : List Byte :=
  leBytes 1 a.slot ++ leBytes 4 a.fields.cap ++ leBytes 1 a.fields.surf ++ leBytes 1 a.fields.skin
    ++ leBytes 2 a.fields.cond ++ leBytes 1 a.fields.loss ++ leBytes 2 a.fields.lnom
    ++ (a.fields.tz.toList.map (leBytes 2)).flatten
    ++ leBytes 2 a.fields.tsLo ++ leBytes 2 a.fields.tsHi ++ leBytes 2 a.fields.tcMin
    ++ leBytes 2 a.fields.tsMax ++ leBytes 2 a.fields.holdT ++ leBytes 1 a.fields.holdH
    ++ leBytes 2 a.fields.maxDwell ++ leBytes 1 a.fields.spacers ++ leBytes 1 a.fields.acceptMeasured

/-- The items of PUSH REQUEST (R150). -/
def pushBytes (a : PushArgs) : List Byte :=
  leBytes 2 a.tag ++ leBytes 1 a.recipe ++ leBytes 2 a.length ++
    (match a.entryTemp with
     | some t => leBytes 2 t
     | none => [])

/-- The payload of the items of a command. -/
def sentBytes {α : Type} (enc : α → List Byte) : Sent α → Option (List Byte)
  | .items a => some (enc a)
  | .wrongLength _ => none

/-- The payload by which a station command is sent (R150); none for an event, for UNKNOWN_COMMAND,
and for a command sent in a wrong length. -/
def requestPayload : Instr → Option (List Byte)
  | .noticeRead _ p => sentBytes (fun _ => []) p
  | .noticeClear _ p => sentBytes (fun k => leBytes 2 k.toNat) p
  | .noticeMask _ p => sentBytes (fun k => leBytes 2 k.toNat) p
  | .examine _ p => sentBytes addressBytes p
  | .deposit _ p => sentBytes (fun a => addressBytes a.address ++ leBytes 4 a.value) p
  | .loadRecipe _ p => sentBytes loadBytes p
  | .map _ p => sentBytes (fun a => leBytes 1 a.first ++ leBytes 1 a.count) p
  | .billet _ p => sentBytes (leBytes 2) p
  | .classify _ p => sentBytes (fun k => leBytes 2 k.toNat) p
  | .pushRequest _ p => sentBytes pushBytes p
  | .pushDone _ p => sentBytes (fun a => leBytes 2 a.tag ++ leBytes 2 a.stroke) p
  | .pushCancel _ p => sentBytes (leBytes 2) p
  | .resync _ p => sentBytes (leBytes 1) p
  | .purge _ p => sentBytes (fun _ => []) p
  | .reserve _ p => sentBytes (fun _ => []) p
  | .take _ p => sentBytes (leBytes 2) p
  | .discard _ p => sentBytes (leBytes 2) p
  | .cadence _ p => sentBytes (leBytes 2) p
  | .run _ p => sentBytes (fun _ => []) p
  | .stop _ p => sentBytes (fun _ => []) p
  | .zoneRestore _ p => sentBytes (leBytes 1) p
  | .dispatchStatus _ p => sentBytes (fun _ => []) p
  | .lotOpen _ p => sentBytes (fun a => leBytes 1 a.recipe ++ leBytes 2 a.count) p
  | .lotAdjust _ p => sentBytes (fun k => leBytes 1 k.toNat) p
  | .lotAbort _ p => sentBytes (fun _ => []) p
  | .lotStatus _ p => sentBytes (fun _ => []) p
  | .powerOnReset _ => none
  | .linkBreak _ => none
  | .pressLinkReset => none
  | .frameReceived _ _ => none
  | .frameGapTimeout _ => none
  | .unknownCommand _ _ => none
  | .replyStart => none
  | .replySent _ => none
  | .pushTimerExpiry => none
  | .permitLost => none
  | .permitPresent => none
  | .dispatchTimerExpiry => none
  | .inverterReply _ => none
  | .replyWindowClose => none
  | .roundRecord _ => none
  | .pyrometerSample _ _ => none
  | .pyroByteTimeout _ => none
  | .measurementCorrection _ => none
  | .settleTimerExpiry => none
  | .waitTimerExpiry => none
  | .lapseTimerExpiry => none
  | .frameStart _ => none
  | .parityError _ => none
  | .breakEnd _ => none
  | .sampleFrameStart _ => none
  | .droppedFrame _ => none

/-- The CMD and payload of the request frame that sends a station command (R150). -/
def encodeRequest (i : Instr) : Option (Byte × List Byte) :=
  match i.code, requestPayload i with
  | some c, some p => some (BitVec.ofNat 8 c, p)
  | _, _ => none

/-- A whole request frame (R145): START, UNIT, LEN, SEQ, CMD, payload, CHK. -/
def requestFrame (unit seq cmd : Byte) (payload : List Byte) : List Byte :=
  let checked := unit :: BitVec.ofNat 8 (payload.length + 2) :: seq :: cmd :: payload
  0xA5 :: (checked ++ [checkByte checked])

/-- The opcode table gives no row any bits, so no word spells a command (log 32). -/
def decodeTableWord (_nbits _w : Nat) : Option Instr := none

end Sys2Proof
end

