-- ==== Sys2Proof/Config.lean ====
section
/-! DEFINITION. What lies outside the part and that the spec gives no value at reset. The spec leaves
no value of an instruction's result open, so there is no free value here. -/

namespace Sys2Proof.Config

/-- DESIGN CHOICE, unsafe (log 4): the strap address that `State.reset` holds. The spec reads it from
the straps at power-on reset (R148), which `Instr.powerOnReset` does. -/
def resetUnit : Nat := 1

/-- DESIGN CHOICE, unsafe (log 5): the level of the PERMIT input in `State.reset`; the spec gives the
input no level (R56). -/
def resetPermit : Bool := false

end Sys2Proof.Config
end

