-- ==== Sys2Proof/Machine/State.lean ====
section
/-! DEFINITION. The state of the part, block by block, its reset value, and the updates of one block. -/

namespace Sys2Proof.Machine

/-- Reasons for which the part could stop. The spec gives every command and event an effect, so there
is none: no row raises a fault (log 20), which is safe. -/
inductive Fault
deriving DecidableEq, Repr

/-- Reasons for which the model refuses a command. -/
inductive Refusal
  /-- An arm of `exec` whose command has no meaning yet. No arm raises it now; raising it would be
  safe. -/
  | notModelled (mnemonic : String)
deriving DecidableEq, Repr

/-! ### The billet track (chapter 1) -/

/-- Track states, in the order of R8. -/
inductive TrackState
  | idle
  | pushing
  | uncertain
deriving DecidableEq, Repr

/-- Estimate states, in the order of R2. -/
inductive EstimateState
  | tracked
  | untracked
deriving DecidableEq, Repr

/-- The marks of a billet record (R2). -/
structure Marks where
  overheated : Bool
  overdwell : Bool
  guarded : Bool
deriving DecidableEq, Repr

/-- A last measurement: its source, and its value or VOID (R2). -/
structure Measurement where
  source : Pyro
  value : Option Nat
deriving DecidableEq, Repr

/-- The fields of a billet record that it has in the row and on the gate (R2). Temperatures are in
tenths of a degree, lengths in millimetres, the entry time in seconds, the energy in joules. -/
structure Billet where
  tag : Nat
  recipe : Nat
  lot : Nat
  length : Nat
  trailing : Nat
  entryTemp : Nat
  ts : Nat
  tc : Nat
  estimate : EstimateState
  marks : Marks
  entryTime : Nat
  energy : Nat
  measurement : Option Measurement
deriving DecidableEq, Repr

/-- Verdicts, in the order of R2. -/
inductive Verdict
  | pending
  | ready
  | under
  | over
  | suspect
  | spacer
  | overdwell
deriving DecidableEq, Repr

/-- A record of the gate list: a billet record with the fields that R2 marks "gate". -/
structure GateBillet where
  billet : Billet
  verdict : Verdict
  frontTime : Option Nat
deriving DecidableEq, Repr

/-- The pending push (R6). -/
structure PendingPush where
  tag : Nat
  recipe : Nat
  lot : Nat
  length : Nat
  entryTemp : Nat
  grantTime : Nat
deriving DecidableEq, Repr

/-- What TRK holds (R4 to R10). Both lists have their front first. `timer` is the push timer's expiry
time, none while it is stopped. -/
structure Track where
  row : List Billet
  gate : List GateBillet
  push : Option PendingPush
  state : TrackState
  timer : Option Nat
  generation : Nat
deriving DecidableEq, Repr

/-! ### The estimator (chapter 2) -/

/-- What EST holds besides the records (R31), and what has been handed to it and not yet taken: round
records (R85) and corrections of the row pyrometer (R95), oldest first. -/
structure Estimator where
  lastRound : Option Nat
  rounds : List RoundRecord
  corrections : List Correction
deriving DecidableEq, Repr

/-! ### The dispatcher (chapter 3) -/

/-- Dispatcher states, in the order of R52. -/
inductive DispatcherState
  | stopped
  | run
  | blocked
deriving DecidableEq, Repr

/-- The current cadence: RUNNING with a cycle in milliseconds, or HOLD (R52). -/
inductive Cadence
  | running (cycle : Nat)
  | hold
deriving DecidableEq, Repr

/-- A set handed to ILC: eight setpoints in 100 W units and eight grants in watts (R80). -/
structure DispatchSet where
  setpoints : PerZone Nat
  grants : PerZone Nat
deriving DecidableEq, Repr

/-- What DSP holds (R52). -/
structure Dispatcher where
  state : DispatcherState
  timerInterval : Nat
  timerExpiry : Nat
  cadence : Cadence
  pendingCadence : Option Nat
  inferred : Bool
  lastHandover : Nat
  grants : PerZone Nat
  setpoints : PerZone Nat
  totalDemand : Nat
deriving DecidableEq, Repr

/-! ### The inverter link and the zone records (chapter 4) -/

/-- The poll that ILC has sent and whose outcome is not yet decided (R81). `spoiled` is true once a
reply that is not good has been taken in its window: the poll is a miss when the window closes, and any
further reply to it is stray (R82, log 10). -/
structure Poll where
  channel : ZoneNo
  setpoint : Nat
  ack : Bool
  spoiled : Bool
deriving DecidableEq, Repr

/-- The round in progress: the set being carried and the poll outstanding (R79). -/
structure Round where
  carried : DispatchSet
  poll : Poll
deriving DecidableEq, Repr

/-- What ILC holds of the link (R79). An entry of `entries` is none until it is filled; an `ack` is
true for "received". `replied` is true for a channel that has replied to its last poll decided, in any
form, so that a further reply of that channel is its second to one poll (R82, log 10); which frames count
as its reply is the model's choice (log 37). -/
structure Inverters where
  round : Option Round
  waiting : Option DispatchSet
  entries : PerZone (Option Entry)
  ack : PerZone Bool
  replied : PerZone Bool
deriving DecidableEq, Repr

/-- Zone states, in the order of R86. -/
inductive ZoneState
  | disabled
  | active
  | fault
deriving DecidableEq, Repr

/-- The statuses of a reply, in the order of R77. -/
inductive ChannelStatus
  | ok
  | limit
  | fault
  | mainsLow
deriving DecidableEq, Repr

/-- A zone record (R86). -/
structure ZoneRecord where
  length : Nat
  rating : Option Nat
  enable : Bool
  state : ZoneState
  lastStatus : Option ChannelStatus
  lastMean : Nat
  missCount : Nat
  lastGrant : Nat
deriving DecidableEq, Repr

/-! ### The parameter store (chapter 7) -/

/-- A recipe 1 to 15: its fields, and the written mark of field n in bit n (R124). -/
structure Recipe where
  fields : RecipeFields
  written : BitVec 23
deriving DecidableEq, Repr

/-- What PST holds besides the configured half of the zone records: the LINE and PYRO tables and the
recipes 1 to 15, recipe n at place n - 1 (R123, R124). -/
structure Params where
  budget : Nat
  period : Nat
  positionA : Nat
  trustA : Nat
  trustB : Nat
  recipes : List Recipe
deriving DecidableEq, Repr

/-! ### The pyrometers and the verdict (chapter 5) -/

/-- A last sample and its validity, VALID for true (R93). -/
structure Sample where
  value : Nat
  valid : Bool
deriving DecidableEq, Repr

/-- A pyrometer input: the bytes of its partial frame, START first and none while it hunts (R92), and
its last sample (R93). -/
structure PyroInput where
  frame : List Byte
  lastSample : Option Sample
deriving DecidableEq, Repr

/-- Front phases (R97); `noFront` is the phase NONE. -/
inductive FrontPhase
  | noFront
  | settling
  | awaiting
  | decided
deriving DecidableEq, Repr

/-- What EVU holds of the gate front (R97); the timers by their expiry time, none while stopped, and
the exit measurement, none for VOID. -/
structure VerdictUnit where
  phase : FrontPhase
  settle : Option Nat
  wait : Option Nat
  exitM : Option Nat
deriving DecidableEq, Repr

/-! ### Handover, lots and notices (chapters 6, 8, 10) -/

/-- The reservation: the tag, and the expiry time of the lapse timer (R110). -/
structure Reservation where
  tag : Nat
  lapse : Nat
deriving DecidableEq, Repr

/-- A lot record (R134). -/
structure Lot where
  number : Nat
  recipe : Nat
  toLoad : Nat
  loaded : Nat
  forged : Nat
  rejected : Nat
  lost : Nat
deriving DecidableEq, Repr

/-- What LOT holds (R134); the queue is oldest first. -/
structure Lots where
  queue : List Lot
  lastClosed : Option Lot
  nextNumber : Nat
  spacers : Nat
  lastRecipe : Option Nat
deriving DecidableEq, Repr

/-- A set of the twelve notice kinds, the kind of priority p in bit p - 1 (R153). -/
abbrev KindSet := BitVec 12

/-- The three sets that NTC holds for a station (R154); `pending` is the notice set. -/
structure Notices where
  pending : KindSet
  mask : KindSet
  snapshot : KindSet
deriving DecidableEq, Repr

/-! ### The station link units (chapter 9) -/

/-- A field address: table code, record number, field number (R123). -/
structure FieldAddress where
  table : Nat
  record : Nat
  field : Nat
deriving DecidableEq, Repr

/-- An accepted request frame (R145). -/
structure Frame where
  unit : Byte
  seq : Byte
  cmd : Byte
  payload : List Byte
deriving DecidableEq, Repr

/-- The command under execution: its frame, and whether a link reset has fallen on it, so that its
reply is dropped (R152). -/
structure Executing where
  frame : Frame
  dropReply : Bool
deriving DecidableEq, Repr

/-- The receiver: HUNTING, or RECEIVING with the bytes so far, START first (R143). -/
inductive Receiver
  | hunting
  | receiving (bytes : List Byte)
deriving DecidableEq, Repr

/-- The transmitter: IDLE, SENDING a reply frame (R143), or holding a reply that is ready while SLU-S
is receiving a frame (R144). -/
inductive Transmitter
  | idle
  | ready (frame : List Byte)
  | sending (frame : List Byte)
deriving DecidableEq, Repr

/-- The status codes of R151. -/
inductive Status
  | ok
  | okClamped
  | okReplaced
  | unknownCommand
  | notPermitted
  | badLength
  | range
  | readOnly
  | inUse
  | inconsistent
  | busy
  | uncertain
  | tagDup
  | tagMismatch
  | noPush
  | recipeInvalid
  | noLot
  | recipeMismatch
  | lotDone
  | spacerNeeded
  | trackFull
  | gateFull
  | noBillet
  | notReady
  | lost
  | badStep
  | lotQueueFull
  | noPermit
  | noBudget
deriving DecidableEq, Repr

/-- What an owner returns to the link unit: the status and the payload (R150). -/
structure Answer where
  status : Status
  payload : List Byte
deriving DecidableEq, Repr

/-- What a link unit holds (R143). `overrun` is true while the frame being received is read in order
to be discarded (R149); `lineBreak` while the line is at space after a break was detected (R152);
`resetOwed` while SLU-P has still to tell PHU of a link reset (R120). `answer` is the model's own
(log 26): the last answer the unit was given. -/
structure Link where
  receiver : Receiver
  overrun : Bool
  fifo : List Frame
  executing : Option Executing
  transmitter : Transmitter
  pace : Bool
  pointer : FieldAddress
  lineBreak : Bool
  resetOwed : Bool
  answer : Option Answer
deriving DecidableEq, Repr

/-! ### The whole part -/

/-- The state of the part, and the queue of commands and events waiting, first in first out. -/
structure State where
  ms : Nat
  secs : Nat
  permit : Bool
  unit : Nat
  trk : Track
  est : Estimator
  dsp : Dispatcher
  ilc : Inverters
  zones : PerZone ZoneRecord
  pst : Params
  pya : PyroInput
  pyb : PyroInput
  evu : VerdictUnit
  phu : Option Reservation
  lot : Lots
  ntc : PerStation Notices
  links : PerStation Link
  pending : List Instr
deriving DecidableEq, Repr

/-! ### Updates of one block -/

/-- Replace the millisecond time base and the seconds count. -/
def State.withClock (s : State) (ms secs : Nat) : State := { s with ms := ms, secs := secs }
/-- Replace the level of PERMIT. -/
def State.withPermit (s : State) (v : Bool) : State := { s with permit := v }
/-- Replace the strap address. -/
def State.withUnit (s : State) (v : Nat) : State := { s with unit := v }
/-- Replace what TRK holds. -/
def State.withTrk (s : State) (v : Track) : State := { s with trk := v }
/-- Replace what EST holds. -/
def State.withEst (s : State) (v : Estimator) : State := { s with est := v }
/-- Replace what DSP holds. -/
def State.withDsp (s : State) (v : Dispatcher) : State := { s with dsp := v }
/-- Replace what ILC holds of the link. -/
def State.withIlc (s : State) (v : Inverters) : State := { s with ilc := v }
/-- Replace the zone records. -/
def State.withZones (s : State) (v : PerZone ZoneRecord) : State := { s with zones := v }
/-- Replace what PST holds. -/
def State.withPst (s : State) (v : Params) : State := { s with pst := v }
/-- Replace the state of PYA. -/
def State.withPya (s : State) (v : PyroInput) : State := { s with pya := v }
/-- Replace the state of PYB. -/
def State.withPyb (s : State) (v : PyroInput) : State := { s with pyb := v }
/-- Replace what EVU holds of the gate front. -/
def State.withEvu (s : State) (v : VerdictUnit) : State := { s with evu := v }
/-- Replace the reservation. -/
def State.withPhu (s : State) (v : Option Reservation) : State := { s with phu := v }
/-- Replace what LOT holds. -/
def State.withLot (s : State) (v : Lots) : State := { s with lot := v }
/-- Replace what NTC holds. -/
def State.withNtc (s : State) (v : PerStation Notices) : State := { s with ntc := v }
/-- Replace what the link units hold. -/
def State.withLinks (s : State) (v : PerStation Link) : State := { s with links := v }
/-- Replace the queue. -/
def State.withPending (s : State) (v : List Instr) : State := { s with pending := v }

/-! ### Reset -/

/-- A zone record after power-on reset (R86). -/
def ZoneRecord.reset : ZoneRecord :=
  { length := 400, rating := none, enable := false, state := .disabled, lastStatus := none,
    lastMean := 0, missCount := 0, lastGrant := 0 }

/-- Fields that all read 0. -/
def zeroFields : RecipeFields :=
  { cap := 0, surf := 0, skin := 0, cond := 0, loss := 0, lnom := 0, tz := .const 0, tsLo := 0,
    tsHi := 0, tcMin := 0, tsMax := 0, holdT := 0, holdH := 0, maxDwell := 0, spacers := 0,
    acceptMeasured := 0 }

/-- A recipe 1 to 15 after power-on reset: every field 0, every mark clear (R124). -/
def Recipe.reset : Recipe := { fields := zeroFields, written := 0 }

/-- The budget field of the LINE record, where a pointer stands after reset (R127). -/
def FieldAddress.budget : FieldAddress := { table := 0, record := 0, field := 0 }

/-- A link unit after power-on reset (R143). -/
def Link.reset : Link :=
  { receiver := .hunting, overrun := false, fifo := [], executing := none, transmitter := .idle,
    pace := true, pointer := .budget, lineBreak := false, resetOwed := false, answer := none }

/-- The sets of a station after power-on reset, with its power-on mask (R154). -/
def Notices.reset (mask : KindSet) : Notices := { pending := 0, mask := mask, snapshot := 0 }

/-- The part right after power-on reset, as R9, R31, R52, R79, R86, R93, R97, R110, R123, R124, R134,
R143, R154 and R159 give it. The strap address and the level of PERMIT come from outside the part:
DESIGN CHOICE (log 4, log 5). -/
def State.reset : State :=
  { ms := 0
    secs := 0
    permit := Config.resetPermit
    unit := Config.resetUnit
    trk := { row := [], gate := [], push := none, state := .idle, timer := none, generation := 0 }
    est := { lastRound := none, rounds := [], corrections := [] }
    dsp :=
      { state := .stopped, timerInterval := 50, timerExpiry := 50, cadence := .hold,
        pendingCadence := none, inferred := false, lastHandover := 0, grants := .const 0,
        setpoints := .const 0, totalDemand := 0 }
    ilc :=
      { round := none, waiting := none, entries := .const none, ack := .const false,
        replied := .const false }
    zones := .const .reset
    pst :=
      { budget := 0, period := 50, positionA := 1600, trustA := 128, trustB := 128,
        recipes := List.replicate 15 .reset }
    pya := { frame := [], lastSample := none }
    pyb := { frame := [], lastSample := none }
    evu := { phase := .noFront, settle := none, wait := none, exitM := none }
    phu := none
    lot := { queue := [], lastClosed := none, nextNumber := 1, spacers := 0, lastRecipe := none }
    ntc :=
      -- press: PERMIT_OFF, TRACK_UNCERTAIN, VERDICT, RES_LOST
      { press := .reset 0x065
        -- loader: PERMIT_OFF, TRACK_UNCERTAIN, GATE_SPACE, LOT_CLOSED
        loader := .reset 0x185
        supervisor := .reset 0xFFF }
    links := { press := .reset, loader := .reset, supervisor := .reset }
    pending := [] }

end Sys2Proof.Machine
end

