-- ==== Sys2Proof/Machine/Flags.lean ====
section
/-! DEFINITION. Notices and marks: raising a notice kind, the attention outputs, the marks of a record,
and the classes of CLASSIFY. -/

namespace Sys2Proof.Machine

/-! ### Notice kinds (R153) -/

/-- The twelve notice kinds, in priority order. -/
inductive Notice
  | permitOff
  | zoneFault
  | trackUncertain
  | overheat
  | mainsLow
  | verdict
  | resLost
  | gateSpace
  | lotClosed
  | untracked
  | idlePower
  | linkError
deriving DecidableEq, Repr

/-- The kind's order p - 1, counting from 0, for the kind of priority p (R153). -/
def Notice.order : Notice → Nat
  | .permitOff => 0
  | .zoneFault => 1
  | .trackUncertain => 2
  | .overheat => 3
  | .mainsLow => 4
  | .verdict => 5
  | .resLost => 6
  | .gateSpace => 7
  | .lotClosed => 8
  | .untracked => 9
  | .idlePower => 10
  | .linkError => 11

/-- The set that holds one kind. -/
def Notice.bit (k : Notice) : KindSet := 1#12 <<< k.order

/-- A station's items with a kind pending: the mask and the snapshot do not change (R153). -/
def Notices.add (k : Notice) (n : Notices) : Notices := { n with pending := n.pending ||| k.bit }

/-- A block raises a kind: it enters the sets of all three stations (R153). -/
def raise (k : Notice) (s : State) : State := s.withNtc (s.ntc.map (Notices.add k))

/-- Raise a kind when a condition holds. -/
def raiseIf (b : Bool) (k : Notice) (s : State) : State := if b then raise k s else s

/-- A link unit raises LINK_ERROR: it enters the set of its own station alone (R153). -/
def raiseLinkError (st : Station) (s : State) : State :=
  s.withNtc (s.ntc.set st ((s.ntc.get st).add .linkError))

/-- The attention output of a station is asserted exactly while its set and mask share a kind
(R155). -/
def attention (s : State) (st : Station) : Bool :=
  decide ((s.ntc.get st).pending &&& (s.ntc.get st).mask ≠ 0)

/-- The order of the highest-priority kind of a set, none when it is empty (R156). -/
def highestKind (k : KindSet) : Option Nat := (List.range 12).find? fun i => k.getLsbD i

/-! ### Marks and classes (R2, R30) -/

/-- No mark. -/
def Marks.none : Marks := { overheated := false, overdwell := false, guarded := false }

/-- The set of marks in a byte, in the order of R2 (R146). -/
def Marks.bits (m : Marks) : Nat :=
  (if m.overheated then 1 else 0) + (if m.overdwell then 2 else 0) + (if m.guarded then 4 else 0)

/-- A record together with its place: the gate record it is, or none for a row record. -/
structure Placed where
  billet : Billet
  gate : Option GateBillet
deriving DecidableEq, Repr

/-- The verdict of a record, none in the row. -/
def Placed.verdict (p : Placed) : Option Verdict := p.gate.map (·.verdict)

/-- The classes of a record, the class of line i + 1 of R30's table in bit i. -/
def Placed.classes (p : Placed) : BitVec 16 :=
  let b := p.billet
  let bit (i : Nat) (c : Bool) : BitVec 16 := if c then 1#16 <<< i else 0
  bit 0 (p.gate.isNone && b.estimate == .tracked && b.marks == Marks.none)
    ||| bit 1 (b.estimate == .untracked)
    ||| bit 2 b.marks.overheated
    ||| bit 3 b.marks.overdwell
    ||| bit 4 b.marks.guarded
    ||| bit 5 (b.recipe == 0)
    ||| bit 6 (p.verdict == some .pending)
    ||| bit 7 (p.verdict == some .ready)
    ||| bit 8 (p.verdict == some .under || p.verdict == some .over || p.verdict == some .suspect
        || p.verdict == some .spacer || p.verdict == some .overdwell)

end Sys2Proof.Machine
end

