-- ==== Sys2Proof/Machine/Operands.lean ====
section
/-! DEFINITION. Operands and replies: roundings and saturation (R1), the order of enumerated values
and the bytes of reply items (R146, R151), recipe fields by number (R124), validity (R125), field
addresses and their forms (R123, R127), and the fitting of values (R130). -/

namespace Sys2Proof.Machine

/-! ### Roundings (R1). Floor is the division of natural numbers. -/

/-- The least integer not below n / d. -/
def ceilDiv (n d : Nat) : Nat := (n + d - 1) / d

/-- n / d rounded to the nearest integer, halves up. -/
def nearestDiv (n d : Nat) : Nat := (2 * n + d) / (2 * d)

/-- n / d rounded toward zero, for a signed n. -/
def towardZeroDiv (n : Int) (d : Nat) : Int := n.tdiv (d : Int)

/-- Saturated into the range of temperatures, 0 to 16000. -/
def saturateTemp (t : Int) : Nat := (max 0 (min t 16000)).toNat

/-- Replaced by the lower or upper limit when outside the range. -/
def clamp (lo hi v : Nat) : Nat := max lo (min v hi)

/-! ### Enumerated values by their order (R146) -/

/-- The status codes of R151. -/
def Status.code : Status → Nat
  | .ok => 0
  | .okClamped => 1
  | .okReplaced => 2
  | .unknownCommand => 16
  | .notPermitted => 17
  | .badLength => 18
  | .range => 19
  | .readOnly => 20
  | .inUse => 21
  | .inconsistent => 22
  | .busy => 23
  | .uncertain => 24
  | .tagDup => 25
  | .tagMismatch => 26
  | .noPush => 27
  | .recipeInvalid => 28
  | .noLot => 29
  | .recipeMismatch => 30
  | .lotDone => 31
  | .spacerNeeded => 32
  | .trackFull => 33
  | .gateFull => 34
  | .noBillet => 35
  | .notReady => 36
  | .lost => 37
  | .badStep => 38
  | .lotQueueFull => 39
  | .noPermit => 40
  | .noBudget => 41

/-- Order in R8. -/
def TrackState.code : TrackState → Nat
  | .idle => 0
  | .pushing => 1
  | .uncertain => 2

/-- Order in R2. -/
def EstimateState.code : EstimateState → Nat
  | .tracked => 0
  | .untracked => 1

/-- Order in R2. -/
def Verdict.code : Verdict → Nat
  | .pending => 0
  | .ready => 1
  | .under => 2
  | .over => 3
  | .suspect => 4
  | .spacer => 5
  | .overdwell => 6

/-- Order in R52. -/
def DispatcherState.code : DispatcherState → Nat
  | .stopped => 0
  | .run => 1
  | .blocked => 2

/-- Order in R86. -/
def ZoneState.code : ZoneState → Nat
  | .disabled => 0
  | .active => 1
  | .fault => 2

/-- Order in R86, where "none" stands first (log 19). -/
def ChannelStatus.code : ChannelStatus → Nat
  | .ok => 1
  | .limit => 2
  | .fault => 3
  | .mainsLow => 4

/-- Order A, B. -/
def pyroCode : Pyro → Nat
  | .a => 0
  | .b => 1

/-- An indicator: 1 when set, 0 when clear (log 15). -/
def flagCode (b : Bool) : Nat := if b then 1 else 0

/-- The order in "in use or not in use" (R124) and in "present or absent" (R76): 0 for the first
(log 15). -/
def firstOfTwo (b : Bool) : Nat := if b then 0 else 1

/-! ### Reply items (R146) -/

/-- All ones in `n` bytes: absent, VOID or "none". -/
def onesBytes (n : Nat) : List Byte := List.replicate n 0xFF

/-- A number that may be absent. -/
def optBytes (n : Nat) : Option Nat → List Byte
  | some v => leBytes n v
  | none => onesBytes n

/-- A set of notice kinds in two bytes. -/
def kindBytes (k : KindSet) : List Byte := leBytes 2 k.toNat

/-- A last measurement: the source, then the value or VOID; all ones when it is absent. -/
def measurementBytes : Option Measurement → List Byte
  | some m => leBytes 1 (pyroCode m.source) ++ optBytes 2 m.value
  | none => onesBytes 3

/-- An answer with a status alone. -/
def Answer.bare (st : Status) : Answer := { status := st, payload := [] }

/-! ### Recipe fields by number (R124) -/

/-- Field n, 0 to 22, of a recipe; 0 for another number. -/
def recipeField (f : RecipeFields) : Nat → Nat
  | 0 => f.cap
  | 1 => f.surf
  | 2 => f.skin
  | 3 => f.cond
  | 4 => f.loss
  | 5 => f.lnom
  | 6 => f.tz.z1
  | 7 => f.tz.z2
  | 8 => f.tz.z3
  | 9 => f.tz.z4
  | 10 => f.tz.z5
  | 11 => f.tz.z6
  | 12 => f.tz.z7
  | 13 => f.tz.z8
  | 14 => f.tsLo
  | 15 => f.tsHi
  | 16 => f.tcMin
  | 17 => f.tsMax
  | 18 => f.holdT
  | 19 => f.holdH
  | 20 => f.maxDwell
  | 21 => f.spacers
  | 22 => f.acceptMeasured
  | _ => 0

/-- A recipe with field n, 0 to 22, replaced. -/
def setRecipeField (f : RecipeFields) (n v : Nat) : RecipeFields :=
  match n with
  | 0 => { f with cap := v }
  | 1 => { f with surf := v }
  | 2 => { f with skin := v }
  | 3 => { f with cond := v }
  | 4 => { f with loss := v }
  | 5 => { f with lnom := v }
  | 6 => { f with tz := f.tz.set .z1 v }
  | 7 => { f with tz := f.tz.set .z2 v }
  | 8 => { f with tz := f.tz.set .z3 v }
  | 9 => { f with tz := f.tz.set .z4 v }
  | 10 => { f with tz := f.tz.set .z5 v }
  | 11 => { f with tz := f.tz.set .z6 v }
  | 12 => { f with tz := f.tz.set .z7 v }
  | 13 => { f with tz := f.tz.set .z8 v }
  | 14 => { f with tsLo := v }
  | 15 => { f with tsHi := v }
  | 16 => { f with tcMin := v }
  | 17 => { f with tsMax := v }
  | 18 => { f with holdT := v }
  | 19 => { f with holdH := v }
  | 20 => { f with maxDwell := v }
  | 21 => { f with spacers := v }
  | 22 => { f with acceptMeasured := v }
  | _ => f

/-- The range of recipe field n (R124). -/
def recipeRange : Nat → Nat × Nat
  | 0 => (1000, 400000)
  | 1 => (32, 128)
  | 2 => (64, 240)
  | 3 => (1, 2000)
  | 4 => (0, 200)
  | 5 => (60, 600)
  | 14 => (3000, 14000)
  | 15 => (3000, 14000)
  | 17 => (3000, 15000)
  | 19 => (5, 120)
  | 20 => (60, 3600)
  | 21 => (0, 3)
  | 22 => (0, 1)
  | _ => (2000, 14000)

/-- The fields that R124 marks "live". -/
def recipeLive (n : Nat) : Bool := (decide (6 ≤ n) && decide (n ≤ 16)) || n == 18

/-- The bytes that the range of recipe field n needs (R146, log 16). -/
def recipeBytes : Nat → Nat
  | 0 => 3
  | 1 => 1
  | 2 => 1
  | 4 => 1
  | 19 => 1
  | 21 => 1
  | 22 => 1
  | 23 => 1
  | 24 => 1
  | _ => 2

/-- Recipe field n fitted to its range (R130). -/
def fitRecipeField (n v : Nat) : Nat := clamp (recipeRange n).1 (recipeRange n).2 v

/-- The recipe field numbers. -/
def recipeFieldNumbers : List Nat := List.range 23

/-! ### Validity (R125) -/

/-- Relations 1 to 6 of R125, in order. -/
def relations (f : RecipeFields) : List Bool :=
  [decide (f.tz.z1 ≤ f.tz.z2 ∧ f.tz.z2 ≤ f.tz.z3 ∧ f.tz.z3 ≤ f.tz.z4 ∧ f.tz.z4 ≤ f.tz.z5 ∧
      f.tz.z5 ≤ f.tz.z6 ∧ f.tz.z6 ≤ f.tz.z7 ∧ f.tz.z7 ≤ f.tz.z8),
    decide (f.tz.z8 ≤ f.tsHi),
    decide (f.tsLo < f.tsHi),
    decide (f.tsHi < f.tsMax),
    decide (f.tcMin ≤ f.tsHi),
    decide (f.holdT ≤ f.tz.z8)]

/-- Whether relations 1 to 6 all hold. -/
def relationsHold (f : RecipeFields) : Bool := (relations f).all id

/-- The VALIDITY of a recipe as it is sent: 0 for VALID, and 1 plus the number of the first failing
test for INCOMPLETE (R125). -/
def Recipe.validity (r : Recipe) : Nat :=
  if r.written = BitVec.allOnes 23 then
    match (relations r.fields).findIdx? (· == false) with
    | some i => i + 2
    | none => 0
  else 1

/-- The fixed values of recipe 0 (R37, R124): the spacer values, then fields that read 0, all marks
set. -/
def spacerFields : RecipeFields :=
  { zeroFields with cap := 13000, surf := 64, skin := 160, cond := 40, loss := 3 }

/-- The fields of a recipe: recipe 0 is fixed. -/
def recipeFields (s : State) (n : Nat) : RecipeFields :=
  if n = 0 then spacerFields else (s.pst.recipes.getD (n - 1) .reset).fields

/-- The VALIDITY of a recipe 0 to 15: recipe 0 reads VALID at all times (R124). -/
def recipeValidity (s : State) (n : Nat) : Nat :=
  if n = 0 then 0 else (s.pst.recipes.getD (n - 1) .reset).validity

/-- Whether a recipe number names a VALID recipe; a number above 15 names none (R13). -/
def recipeValid (s : State) (n : Nat) : Bool := decide (n ≤ 15) && recipeValidity s n == 0

/-- The written mark of field n of a recipe: recipe 0's marks read as set (R124). -/
def recipeWritten (s : State) (recipe n : Nat) : Bool :=
  if recipe = 0 then true else (s.pst.recipes.getD (recipe - 1) .reset).written.getLsbD n

/-- A recipe is in use while a row record, a gate record, the pending push or a lot in the queue names
it (R126). -/
def recipeInUse (s : State) (n : Nat) : Bool :=
  s.trk.row.any (fun b => b.recipe == n) || s.trk.gate.any (fun g => g.billet.recipe == n)
    || s.trk.push.any (fun p => p.recipe == n) || s.lot.queue.any (fun l => l.recipe == n)

/-- Store a recipe 1 to 15. -/
def storeRecipe (n : Nat) (r : Recipe) (s : State) : State :=
  s.withPst { s.pst with recipes := s.pst.recipes.set (n - 1) r }

/-! ### Zone geometry (R11) -/

/-- The start a_z of a zone: the sum of the lengths of the zones before it. -/
def zoneStart (s : State) (z : ZoneNo) : Nat :=
  ((ZoneNo.all.takeWhile (fun y => y != z)).map fun y => (s.zones.get y).length).sum

/-- The end b_z of a zone. -/
def zoneEnd (s : State) (z : ZoneNo) : Nat := zoneStart s z + (s.zones.get z).length

/-- The row length R. -/
def rowLength (s : State) : Nat := (ZoneNo.all.map fun y => (s.zones.get y).length).sum

/-! ### Field addresses (R123, R127) -/

/-- How many fields a record has; 0 when the table does not have the record (R123). -/
def fieldCount (table record : Nat) : Nat :=
  match table with
  | 0 => if record = 0 then 4 else 0
  | 1 => if 1 ≤ record ∧ record ≤ 8 then 8 else 0
  | 2 => if record ≤ 1 then 3 else 0
  | 3 => if record ≤ 15 then 25 else 0
  | _ => 0

/-- Whether an address names a field. -/
def FieldAddress.named (a : FieldAddress) : Bool := decide (a.field < fieldCount a.table a.record)

/-- The first record of a table. -/
def firstRecord (table : Nat) : Nat := if table = 1 then 1 else 0

/-- The last record of a table. -/
def lastRecord (table : Nat) : Nat :=
  match table with
  | 1 => 8
  | 2 => 1
  | 3 => 15
  | _ => 0

/-- The last field of a record of a table. -/
def lastFieldOf (table : Nat) : Nat := fieldCount table (firstRecord table) - 1

/-- The field after an address in the order of R123; none after the last. -/
def FieldAddress.after (a : FieldAddress) : Option FieldAddress :=
  if a.field + 1 < fieldCount a.table a.record then some { a with field := a.field + 1 }
  else if 0 < fieldCount a.table (a.record + 1) then
    some { table := a.table, record := a.record + 1, field := 0 }
  else if a.table < 3 then
    some { table := a.table + 1, record := firstRecord (a.table + 1), field := 0 }
  else none

/-- The field before an address in the order of R123; none before the first. -/
def FieldAddress.before (a : FieldAddress) : Option FieldAddress :=
  if 0 < a.field then some { a with field := a.field - 1 }
  else if firstRecord a.table < a.record then
    some { table := a.table, record := a.record - 1, field := lastFieldOf a.table }
  else if 0 < a.table then
    some { table := a.table - 1, record := lastRecord (a.table - 1),
           field := lastFieldOf (a.table - 1) }
  else none

/-- The target field of an address form, against a pointer; none is refused RANGE (R127). -/
def resolve (pointer : FieldAddress) (a : AddressForm) : Option FieldAddress :=
  match a.form with
  | 0 =>
    let t : FieldAddress := { table := a.table, record := a.record, field := a.field }
    if t.named then some t else none
  | 1 => pointer.after
  | 2 => pointer.before
  | 3 => some pointer
  | _ => none

/-- The address of a field in three bytes. -/
def FieldAddress.bytes (a : FieldAddress) : List Byte :=
  leBytes 1 a.table ++ leBytes 1 a.record ++ leBytes 1 a.field

/-- The zone of a ZONE record. -/
def recordZone (record : Nat) : ZoneNo := (ZoneNo.ofNumber record).getD .z1

/-- A pyrometer input. -/
def pyroInput (s : State) : Pyro → PyroInput
  | .a => s.pya
  | .b => s.pyb

/-- The pyrometer of a PYRO record. -/
def recordPyro (record : Nat) : Pyro := if record = 0 then .a else .b

/-- The trust of a pyrometer's record. -/
def trust (s : State) : Pyro → Nat
  | .a => s.pst.trustA
  | .b => s.pst.trustB

/-- A field as it stands; none where it is unwritten or "none" (R123, R124). -/
def readField (s : State) (a : FieldAddress) : Option Nat :=
  match a.table with
  | 0 =>
    match a.field with
    | 0 => some s.pst.budget
    | 1 => some s.pst.period
    | 2 => some (rowLength s)
    | _ => some s.trk.generation
  | 1 =>
    let z := s.zones.get (recordZone a.record)
    match a.field with
    | 0 => some z.length
    | 1 => z.rating
    | 2 => some (flagCode z.enable)
    | 3 => some z.state.code
    | 4 => z.lastStatus.map (·.code)
    | 5 => some z.lastMean
    | 6 => some z.missCount
    | _ => some z.lastGrant
  | 2 =>
    match a.field with
    | 0 => some (if a.record = 0 then s.pst.positionA else rowLength s)
    | 1 => some (trust s (recordPyro a.record))
    | _ => (pyroInput s (recordPyro a.record)).lastSample.map (·.value)
  | _ =>
    match a.field with
    | 23 => some (recipeValidity s a.record)
    | 24 => some (firstOfTwo (recipeInUse s a.record))
    | n => some (recipeField (recipeFields s a.record) n)

/-- The bytes that a field's range needs (R146, log 16). -/
def fieldBytes (a : FieldAddress) : Nat :=
  match a.table with
  | 0 =>
    match a.field with
    | 0 => 3
    | 1 => 1
    | _ => 2
  | 1 =>
    match a.field with
    | 0 => 2
    | 1 => 3
    | 5 => 2
    | 7 => 3
    | _ => 1
  | 2 => 2
  | _ => recipeBytes a.field

/-- The fields that no DEPOSIT may write (R129, check 2). -/
def readOnlyField (a : FieldAddress) : Bool :=
  match a.table with
  | 0 => decide (2 ≤ a.field)
  | 1 => decide (3 ≤ a.field)
  | 2 => a.field == 2 || (a.record == 1 && a.field == 0)
  | _ => a.record == 0 || decide (23 ≤ a.field)

/-- The kind of a field as EXAMINE gives it: 0 writable, 1 read-only, 2 locked, 3 live (R128,
log 15). -/
def fieldKind (a : FieldAddress) : Nat :=
  if readOnlyField a then 1
  else if a.table = 3 then (if recipeLive a.field then 3 else 2)
  else 0

/-- The written mark as EXAMINE gives it: for recipe fields 0 to 22 and the zone rating, and set for
every other field (R128). -/
def writtenMark (s : State) (a : FieldAddress) : Bool :=
  if a.table = 1 ∧ a.field = 1 then (s.zones.get (recordZone a.record)).rating.isSome
  else if a.table = 3 ∧ a.field < 23 then recipeWritten s a.record a.field
  else true

/-- A value made to fit a writable field (R130). -/
def fitField (s : State) (a : FieldAddress) (v : Nat) : Nat :=
  match a.table with
  | 0 => if a.field = 0 then clamp 0 4000000 v else clamp 20 200 v / 10 * 10
  | 1 =>
    match a.field with
    | 0 => clamp 200 800 v
    | 1 => clamp 10000 800000 v
    | _ => clamp 0 1 v
  | 2 => if a.field = 0 then clamp 0 (rowLength s - 1) v else clamp 0 256 v
  | _ => fitRecipeField a.field v

/-- A field in a DEPOSIT reply: its present value, all ones where there is none or where it is a VOID
sample (R129, R146, log 19). -/
def presentBytes (s : State) (a : FieldAddress) : List Byte :=
  let void := a.table == 2 && a.field == 2 &&
    (pyroInput s (recordPyro a.record)).lastSample.any fun x => !x.valid
  optBytes (fieldBytes a) (if void then none else readField s a)

end Sys2Proof.Machine
end

