-- ==== Sys2Proof/Machine/Ops.lean ====
section
/-! DEFINITION. Operations that several commands and events share: positions, dwell and lookups, the
gate front, the reservation, the lots, the dispatcher's states, applying and dropping a push, entering
and leaving UNCERTAIN, removal at the gate, and the bytes of a record. -/

namespace Sys2Proof.Machine

/-! ### Timers -/

/-- Whether a timer with an expiry time is due; a stopped timer is not (R20, R99, R100, R113). -/
def due (s : State) (expiry : Option Nat) : Bool := expiry.any fun t => decide (t ≤ s.ms)

/-! ### Reading the track -/

/-- The leading face of a record (R2). -/
def Billet.leading (b : Billet) : Nat := b.trailing + b.length

/-- The dwell of a record, in seconds (R2). -/
def dwell (s : State) (b : Billet) : Nat := s.secs - b.entryTime

/-- The overlap of a row record with a zone (R12). -/
def overlap (s : State) (z : ZoneNo) (b : Billet) : Nat :=
  min b.leading (zoneEnd s z) - max b.trailing (zoneStart s z)

/-- The records of the track in MAP order: the gate, then the row from its front (R28). -/
def mapOrder (s : State) : List Placed :=
  s.trk.gate.map (fun g => { billet := g.billet, gate := some g })
    ++ s.trk.row.map (fun b => { billet := b, gate := none })

/-- Whether a row record, a gate record or the pending push holds a tag (R7). -/
def tagHeld (s : State) (tag : Nat) : Bool :=
  s.trk.row.any (fun b => b.tag == tag) || s.trk.gate.any (fun g => g.billet.tag == tag)
    || s.trk.push.any (fun p => p.tag == tag)

/-- Change every record of the row and the gate that a tag names. -/
def updateTag (tag : Nat) (f : Billet → Billet) (s : State) : State :=
  s.withTrk
    { s.trk with
      row := s.trk.row.map fun b => if b.tag = tag then f b else b
      gate := s.trk.gate.map fun g => if g.billet.tag = tag then { g with billet := f g.billet } else g }

/-- The gate front, if any. -/
def gateFront (s : State) : Option GateBillet := s.trk.gate.head?

/-- Replace the gate front, where there is one. -/
def setGateFront (g : GateBillet) (s : State) : State :=
  match s.trk.gate with
  | [] => s
  | _ :: rest => s.withTrk { s.trk with gate := g :: rest }

/-- The track generation counts up by one and wraps (R10). -/
def nextGeneration (g : Nat) : Nat := (g + 1) % 65536

/-! ### The gate front's timing (R98) -/

/-- TRK reports the gate front to EVU: a new front is timed from now, and an empty gate stops the
timers (R5, R98). -/
def reportFront (s : State) : State :=
  match s.trk.gate with
  | [] => s.withEvu { phase := .noFront, settle := none, wait := none, exitM := none }
  | g :: rest =>
    (s.withTrk { s.trk with gate := { g with frontTime := some s.ms } :: rest }).withEvu
      { phase := .settling, settle := some (s.ms + 300), wait := some (s.ms + 1000), exitM := none }

/-! ### The reservation (R110) -/

/-- PHU clears a standing reservation and raises RES_LOST; without one it does nothing (R113, R119,
R120). -/
def loseReservation (s : State) : State :=
  match s.phu with
  | some _ => raise .resLost (s.withPhu none)
  | none => s

/-- EVU tells PHU that the front with a tag has left READY (R118). -/
def frontLeftReady (tag : Nat) (s : State) : State :=
  if s.phu.any (fun r => r.tag == tag) then loseReservation s else s

/-! ### Lots (chapter 8) -/

/-- How many records of a lot stand in the row and on the gate (R134). -/
def lotInTrack (s : State) (n : Nat) : Nat :=
  s.trk.row.countP (fun b => b.lot == n) + s.trk.gate.countP (fun g => g.billet.lot == n)

/-- Whether the pending push belongs to a lot. -/
def lotPending (s : State) (n : Nat) : Bool := s.trk.push.any fun p => p.lot == n

/-- A lot closes when it is RUN_OUT and none of its billets is in the track (R135). -/
def lotCloses (s : State) (l : Lot) : Bool :=
  l.toLoad == 0 && lotInTrack s l.number == 0 && !lotPending s l.number

/-- LOT tests the lots of the queue for closing, older first (R135). -/
def closeLots (s : State) : State :=
  match (s.lot.queue.filter (lotCloses s)).getLast? with
  | none => s
  | some last =>
    raise .lotClosed
      (s.withLot
        { s.lot with
          queue := s.lot.queue.filter fun l => !lotCloses s l
          lastClosed := some last })

/-- Change the lots of the queue that have a number. -/
def updateLot (n : Nat) (f : Lot → Lot) (s : State) : State :=
  s.withLot { s.lot with queue := s.lot.queue.map fun l => if l.number = n then f l else l }

/-- LOT counts an applied push (R140). -/
def countApplied (recipe lot : Nat) (s : State) : State :=
  if recipe = 0 then s.withLot { s.lot with spacers := min 255 (s.lot.spacers + 1) }
  else
    let s := updateLot lot (fun l => { l with toLoad := l.toLoad - 1, loaded := l.loaded + 1 }) s
    s.withLot { s.lot with spacers := 0, lastRecipe := some recipe }

/-- LOT counts a removed record that is not a spacer (R141). -/
def countRemoved (f : Lot → Lot) (b : Billet) (s : State) : State :=
  if b.recipe = 0 then s else updateLot b.lot f s

/-- One billet forged. -/
def Lot.forge (l : Lot) : Lot := { l with forged := l.forged + 1 }

/-- One billet rejected. -/
def Lot.reject (l : Lot) : Lot := { l with rejected := l.rejected + 1 }

/-- One billet lost. -/
def Lot.lose (l : Lot) : Lot := { l with lost := l.lost + 1 }

/-! ### The dispatcher's states (chapter 3) -/

/-- DSP enters a state in which it does not heat: the grants, setpoints and total demand it holds
become 0 at once (R53, R55, R57). -/
def haltHeating (st : DispatcherState) (s : State) : State :=
  s.withDsp
    { s.dsp with state := st, grants := .const 0, setpoints := .const 0, totalDemand := 0 }

/-- TRK tells DSP that the track enters UNCERTAIN (R57). -/
def dispatcherBlocks (s : State) : State :=
  match s.dsp.state with
  | .run => haltHeating .blocked s
  | .stopped => s
  | .blocked => s

/-- TRK tells DSP that the track leaves UNCERTAIN: BLOCKED goes to RUN, with PERMIT present (R57). -/
def dispatcherUnblocks (s : State) : State :=
  if s.dsp.state = .blocked ∧ s.permit = true then s.withDsp { s.dsp with state := .run } else s

/-- DSP notes a press handover: the time is set and the idle inference cleared (R63, R65). -/
def noteHandover (s : State) : State :=
  s.withDsp { s.dsp with lastHandover := s.ms, inferred := false }

/-! ### Pushes (sections 1.4 to 1.6) -/

/-- The record created from the pending push (R3). -/
def newBillet (s : State) (p : PendingPush) (est : EstimateState) : Billet :=
  { tag := p.tag, recipe := p.recipe, lot := p.lot, length := p.length, trailing := 0,
    entryTemp := p.entryTemp, ts := p.entryTemp, tc := p.entryTemp, estimate := est,
    marks := Marks.none, entryTime := s.secs, energy := 0, measurement := none }

/-- Whether a push of a length moves a row record out of the row (R13, R16). -/
def pushedOut (s : State) (len : Nat) (b : Billet) : Bool :=
  decide (rowLength s ≤ b.trailing + len)

/-- How many row records a push of a length moves to the gate. -/
def movedBy (s : State) (len : Nat) : Nat := s.trk.row.countP (pushedOut s len)

/-- A record as it enters the gate: PENDING, with the trailing value it had (R17). -/
def toGate (b : Billet) : GateBillet := { billet := b, verdict := .pending, frontTime := none }

/-- The track after a push is applied (R16, R17). -/
def pushedTrack (s : State) (p : PendingPush) (est : EstimateState) : Track :=
  { row :=
      (s.trk.row.filter fun b => !pushedOut s p.length b).map
          (fun b => { b with trailing := b.trailing + p.length })
        ++ [newBillet s p est]
    gate := s.trk.gate ++ (s.trk.row.filter (pushedOut s p.length)).map toGate
    push := none
    state := .idle
    timer := none
    generation := nextGeneration s.trk.generation }

/-- TRK applies a push (R16): the track moves, LOT counts it, and a record that has come onto an empty
gate is reported as the new front. -/
def applyPush (p : PendingPush) (est : EstimateState) (s : State) : State :=
  let t := countApplied p.recipe p.lot (s.withTrk (pushedTrack s p est))
  if s.trk.gate.isEmpty && decide (0 < movedBy s p.length) then reportFront t else t

/-- TRK drops the pending push: the timer stops, the track is IDLE, and LOT tests for closing
(R19, R23). -/
def dropPush (s : State) : State :=
  closeLots (s.withTrk { s.trk with push := none, state := .idle, timer := none })

/-- The track enters UNCERTAIN (R21). -/
def enterUncertain (s : State) : State :=
  let s1 := s.withTrk
    { s.trk with
      row := s.trk.row.map fun b => { b with estimate := .untracked }
      state := .uncertain
      timer := none }
  dispatcherBlocks
    (raiseIf (s.trk.row.any fun b => b.estimate == .tracked) .untracked (raise .trackUncertain s1))

/-! ### Removal at the gate (R26, R121) -/

/-- TRK removes the gate front: the second record becomes the front, or the gate is reported empty, and
the generation counts up (R26). -/
def removeFront (s : State) : State :=
  reportFront
    (s.withTrk
      { s.trk with gate := s.trk.gate.tail, generation := nextGeneration s.trk.generation })

/-- An accepted TAKE or DISCARD of the front: TRK removes it, the reservation is cleared without
notice, LOT counts it and tests for closing, DSP notes the handover, GATE_SPACE is raised (R114,
R116, R121). -/
def handOver (count : Lot → Lot) (b : Billet) (s : State) : State :=
  raise .gateSpace
    (noteHandover (closeLots (countRemoved count b ((removeFront s).withPhu none))))

/-! ### The bytes of a record -/

/-- The 16-byte summary of MAP (R151). -/
def summaryBytes (s : State) (p : Placed) : List Byte :=
  let b := p.billet
  leBytes 2 b.tag ++ leBytes 1 b.recipe ++ leBytes 1 b.lot ++ leBytes 2 b.length
    ++ leBytes 2 b.trailing ++ leBytes 2 b.ts ++ leBytes 2 b.tc
    ++ leBytes 1
        (b.estimate.code + 2 * b.marks.bits + 16 * flagCode p.gate.isSome)
    ++ leBytes 1 ((p.verdict.map fun v => v.code + 1).getD 0)
    ++ leBytes 2 (min 65535 (dwell s b))

/-- The fields of R2 that a record has in the row and on the gate but for its last measurement
(R29, log 17). -/
def recordBytes (b : Billet) : List Byte :=
  leBytes 2 b.tag ++ leBytes 1 b.recipe ++ leBytes 1 b.lot ++ leBytes 2 b.length
    ++ leBytes 2 b.trailing ++ leBytes 2 b.entryTemp ++ leBytes 2 b.ts ++ leBytes 2 b.tc
    ++ leBytes 1 b.estimate.code ++ leBytes 1 b.marks.bits ++ leBytes 4 b.entryTime
    ++ leBytes 4 b.energy

/-- The final record in the reply to TAKE and DISCARD, with the exit measurement and the generation
(R114). -/
def finalRecordBytes (s : State) (g : GateBillet) (exitM : Option Nat) (generation : Nat) :
    List Byte :=
  let b := g.billet
  leBytes 2 b.tag ++ leBytes 1 b.recipe ++ leBytes 1 b.lot ++ leBytes 2 b.length ++ leBytes 2 b.ts
    ++ leBytes 2 b.tc ++ leBytes 1 b.estimate.code ++ leBytes 1 b.marks.bits ++ leBytes 4 b.energy
    ++ leBytes 4 (dwell s b) ++ measurementBytes b.measurement ++ leBytes 1 g.verdict.code
    ++ optBytes 2 exitM ++ leBytes 2 generation

end Sys2Proof.Machine
end

