-- ==== Sys2Proof/Machine/LinkOps.lean ====
section
/-! DEFINITION. What a station link unit does for every command: receiving bytes, accepting a frame,
taking the oldest frame, the checks of R150, and forming the reply. -/

namespace Sys2Proof.Machine

/-- Replace the state of one link unit. -/
def setLink (st : Station) (l : Link) (s : State) : State := s.withLinks (s.links.set st l)

/-- The driver-enable output: asserted while SLU-S sends a reply (R144). -/
def driverEnable (s : State) : Bool :=
  match s.links.supervisor.transmitter with
  | .sending _ => true
  | .ready _ => false
  | .idle => false

/-- Whether the link unit can receive: not while its line is at space, and SLU-S not while it drives
the pair (R144, R152). -/
def canReceive (s : State) (st : Station) : Bool :=
  !(s.links.get st).lineBreak && !(st == .supervisor && driverEnable s)

/-- Whether a frame is being received. -/
def Link.isReceiving (l : Link) : Bool :=
  match l.receiver with
  | .hunting => false
  | .receiving _ => true

/-! ### Taking a frame (R149, R150) -/

/-- The unit takes the oldest frame when no command is under execution, the transmitter is IDLE and the
FIFO is not empty; the pace output is asserted. On the press link it waits until PHU has been told of
a link reset (R120, log 12). -/
def Link.takeNext (l : Link) : Link :=
  match l.executing, l.transmitter, l.fifo with
  | none, .idle, f :: rest =>
    if l.resetOwed then l
    else
      { l with fifo := rest, executing := some { frame := f, dropReply := false }, pace := true }
  | _, _, _ => l

/-- Let a link unit take its next frame. -/
def takeFrame (st : Station) (s : State) : State := setLink st (s.links.get st).takeNext s

/-! ### The reply (R146, R148, R150) -/

/-- The reply frame to a request (R146). -/
def replyFrame (s : State) (f : Frame) (a : Answer) : List Byte :=
  let checked := BitVec.ofNat 8 s.unit :: BitVec.ofNat 8 (a.payload.length + 3) :: f.seq :: f.cmd
    :: BitVec.ofNat 8 a.status.code :: a.payload
  0x5B :: (checked ++ [checkByte checked])

/-- Whether a frame is a broadcast: UNIT 0 on the supervisor link (R148). -/
def isBroadcast (st : Station) (f : Frame) : Bool := st == .supervisor && f.unit == 0

/-- The link unit after the command under execution has completed with an answer: the reply goes to the
transmitter, waits while SLU-S receives a frame (R144), or is not sent, for a broadcast (R148) or
after a link reset (R152); then the next frame may be taken. -/
def Link.complete (st : Station) (e : Executing) (a : Answer) (reply : List Byte) (l : Link) : Link :=
  let l := { l with executing := none, answer := some a }
  if isBroadcast st e.frame || e.dropReply then l.takeNext
  else if st == .supervisor && l.isReceiving then { l with transmitter := .ready reply }
  else { l with transmitter := .sending reply }

/-- The link unit is given the answer to a command. When the frame under execution is that command, it
completes; otherwise the command reached its owner without a frame of the model, and only the answer
is kept (log 1). -/
def reply (st : Station) (c : Instr) (a : Answer) (s : State) : State :=
  let l := s.links.get st
  match l.executing with
  | none => setLink st { l with answer := some a } s
  | some e =>
    if decodeRequest st e.frame.cmd e.frame.payload = c then
      setLink st (l.complete st e a (replyFrame s e.frame a)) s
    else setLink st { l with answer := some a } s

/-! ### Executing a command (R150) -/

/-- SLU-P tells PHU of a link reset, which clears a standing reservation with RES_LOST (R120); then
the unit may take a frame. -/
def tellReset (s : State) : State :=
  takeFrame .press (loseReservation (setLink .press { s.links.press with resetOwed := false } s))

/-- A link reset that PHU has not been told of, with no command under execution. -/
def resetDue (s : State) : Bool := s.links.press.resetOwed && s.links.press.executing.isNone

/-- A command of the press station is taken after PHU has been told of an earlier link reset (R120,
log 12). -/
def settleReset (st : Station) (s : State) : State :=
  if st == .press && resetDue s then tellReset s else s

/-- Checks 2 and 3 of R150, then the owner's rule. A refusal here changes no state. -/
def serve {α : Type} (st : Station) (code : Nat) (p : Sent α) (owner : α → State → State × Answer)
    (s : State) : State × Answer :=
  if permitted code st then
    match p with
    | .items a => owner a s
    | .wrongLength _ => (s, .bare .badLength)
  else (s, .bare .notPermitted)

/-- A station command, whole: the checks of the link unit, the owner's rule, and the reply. -/
def command {α : Type} (st : Station) (code : Nat) (c : Instr) (p : Sent α)
    (owner : α → State → State × Answer) (s : State) : State :=
  let r := serve st code p owner (settleReset st s)
  reply st c r.2 r.1

/-! ### Receiving (R147 to R149) -/

/-- The frame being received is discarded and the receiver hunts. -/
def Link.hunt (l : Link) : Link := { l with receiver := .hunting, overrun := false }

/-- The frame being received is discarded for a fault, with LINK_ERROR (R147). -/
def discardFaulty (st : Station) (s : State) : State :=
  raiseLinkError st (setLink st (s.links.get st).hunt s)

/-- The byte at a place of a frame. -/
def byteAt (bytes : List Byte) (i : Nat) : Byte := bytes.getD i 0

/-- Whether a frame is addressed to this part, or is a broadcast (R148); point-to-point links ignore
UNIT. -/
def addressed (s : State) (st : Station) (unit : Byte) : Bool :=
  match st with
  | .press => true
  | .loader => true
  | .supervisor => unit == BitVec.ofNat 8 s.unit || unit == 0

/-- The frame of complete bytes (R145). -/
def frameOf (bytes : List Byte) : Frame :=
  { unit := byteAt bytes 1, seq := byteAt bytes 3, cmd := byteAt bytes 4,
    payload := (bytes.drop 5).dropLast }

/-- A frame is accepted: it goes to the end of the FIFO, the pace output is deasserted when it is the
fourth, and the unit takes a frame when it can (R149). -/
def acceptFrame (st : Station) (f : Frame) (s : State) : State :=
  let l := (s.links.get st).hunt
  let l := { l with fifo := l.fifo ++ [f], pace := decide (l.fifo.length + 1 < 4) }
  takeFrame st (setLink st l s)

/-- A frame is complete (R147): its check, an overrun (R149), and its address (R148). -/
def completeFrame (st : Station) (bytes : List Byte) (s : State) : State :=
  let good := byteSum (bytes.drop 1) == 0
  let mine := addressed s st (byteAt bytes 1)
  if (s.links.get st).overrun then
    if good && !mine then setLink st (s.links.get st).hunt s else discardFaulty st s
  else if !good then discardFaulty st s
  else if mine then acceptFrame st (frameOf bytes) s
  else setLink st (s.links.get st).hunt s

/-- A byte without a line fault arrives on a link (R147). A START while the FIFO holds 4 begins an
overrun (R149). -/
def receiveByte (st : Station) (s : State) (b : Byte) : State :=
  let l := s.links.get st
  if canReceive s st then
    match l.receiver with
    | .hunting =>
      if b = 0xA5 then
        setLink st { l with receiver := .receiving [b], overrun := decide (4 ≤ l.fifo.length) } s
      else s
    | .receiving sofar =>
      let bytes := sofar ++ [b]
      let len := (byteAt bytes 2).toNat
      if bytes.length < 3 then setLink st { l with receiver := .receiving bytes } s
      else if len < 2 ∨ 66 < len then discardFaulty st s
      else if bytes.length = len + 4 then completeFrame st bytes s
      else setLink st { l with receiver := .receiving bytes } s
  else s

/-! ### Link reset (R152) -/

/-- The link unit after a link reset: the frame in reception and the FIFO are gone, the pace output is
asserted, the reply of a command under execution is to be dropped, and the pointer is at the budget
field. DESIGN CHOICE (log 35): the pointer moves at the break, before a command under execution
completes, so that an EXAMINE or DEPOSIT under execution resolves from the budget field and moves the
pointer on from there; R127 and R152 give no order. -/
def Link.afterBreak (l : Link) : Link :=
  { l.hunt with
    fifo := []
    pace := true
    executing := l.executing.map fun e => { e with dropReply := true }
    pointer := .budget
    lineBreak := true }

end Sys2Proof.Machine
end

