-- ==== Sys2Proof/Machine/Inverter.lean ====
section
/-! DEFINITION. The inverter link (chapter 4): rounds and polls, the outcome of a poll, and the meanings
of INVERTER_REPLY, REPLY_WINDOW_CLOSE and ZONE_RESTORE. -/

namespace Sys2Proof.Machine

/-! ### Rounds and polls (R77, R80, R81) -/

/-- The poll of a channel as it is sent now: the set's setpoint for an ACTIVE zone and 0 otherwise, and
the channel's ack state (R81). -/
def pollOf (s : State) (set : DispatchSet) (z : ZoneNo) : Poll :=
  { channel := z
    setpoint := if (s.zones.get z).state = .active then set.setpoints.get z else 0
    ack := s.ilc.ack.get z
    spoiled := false }

/-- The bytes of a poll frame (R77). -/
def pollFrame (p : Poll) : List Byte :=
  let checked := leBytes 1 p.channel.number ++ leBytes 2 p.setpoint ++ leBytes 1 (flagCode p.ack)
  0x71 :: (checked ++ [checkByte checked])

/-- ILC polls a channel of the set being carried (R81). -/
def sendPoll (set : DispatchSet) (z : ZoneNo) (s : State) : State :=
  s.withIlc { s.ilc with round := some { carried := set, poll := pollOf s set z } }

/-- ILC begins a round with a set: the grants become the last grants, the entries are clear, and
channel 1 is polled (R80). -/
def beginRound (set : DispatchSet) (s : State) : State :=
  let s1 := s.withZones (.tabulate fun z => { s.zones.get z with lastGrant := set.grants.get z })
  sendPoll set .z1 (s1.withIlc { s1.ilc with entries := .const none })

/-- DSP hands ILC a set: it begins a round, or becomes the waiting set (R80). -/
def handSet (set : DispatchSet) (s : State) : State :=
  match s.ilc.round with
  | none => beginRound set s
  | some _ => s.withIlc { s.ilc with waiting := some set }

/-! ### The outcome of a poll (R82 to R85) -/

/-- The status of a code 0 to 3 (R77). -/
def statusOf : Nat → Option ChannelStatus
  | 0 => some .ok
  | 1 => some .limit
  | 2 => some .fault
  | 3 => some .mainsLow
  | _ => none

/-- Whether the check byte of a reply is correct: the bytes from the channel number through the check
byte sum to 0 modulo 256 (R77). -/
def replyChecks (r : InverterFrame) : Bool :=
  byteSum
    (leBytes 1 r.channel ++ leBytes 1 r.status ++ leBytes 3 r.energy ++ leBytes 2 r.meanPower
      ++ leBytes 1 r.check) == 0

/-- The handed round record: the eight entries in zone order (R85). -/
def roundRecordOf (entries : PerZone (Option Entry)) : RoundRecord :=
  .tabulate fun z => (entries.get z).getD .void

/-- Fill an entry, set the ack state of a channel, and keep whether it has replied (R82 to R84). -/
def Inverters.decide (i : Inverters) (z : ZoneNo) (e : Entry) (ack replied : Bool) : Inverters :=
  { i with
    entries := i.entries.set z (some e)
    ack := i.ack.set z ack
    replied := i.replied.set z replied }

/-- The zone record after a good reply (R83). -/
def ZoneRecord.goodReply (z : ZoneRecord) (status : ChannelStatus) (mean : Nat) : ZoneRecord :=
  { z with
    missCount := 0
    lastStatus := some status
    lastMean := mean
    state := if status = .fault ∧ z.state = .active then .fault else z.state }

/-- The zone record after a miss (R84). -/
def ZoneRecord.miss (z : ZoneRecord) : ZoneRecord :=
  { z with
    missCount := min 3 (z.missCount + 1)
    state := if 3 ≤ z.missCount + 1 ∧ z.state = .active then .fault else z.state }

/-- ILC stores a zone record, and raises ZONE_FAULT when the zone enters FAULT (R83, R84). -/
def storeZone (z : ZoneNo) (r : ZoneRecord) (s : State) : State :=
  raiseIf (r.state == .fault && (s.zones.get z).state != .fault) .zoneFault
    (s.withZones (s.zones.set z r))

/-- A good reply of a channel (R83). -/
def goodReply (z : ZoneNo) (status : ChannelStatus) (r : InverterFrame) (s : State) : State :=
  let s1 := s.withIlc (s.ilc.decide z (.energy r.energy) true true)
  raiseIf (status == .mainsLow) .mainsLow
    (storeZone z ((s.zones.get z).goodReply status r.meanPower) s1)

/-- A miss of a channel that has replied in some form, or has not (R84). -/
def missedReply (z : ZoneNo) (replied : Bool) (s : State) : State :=
  storeZone z (s.zones.get z).miss (s.withIlc (s.ilc.decide z .void false replied))

/-- The round completes: the record is handed to EST, the entries are clear, and a waiting set begins
the next round (R85). -/
def completeRound (s : State) : State :=
  let s1 := s.withEst { s.est with rounds := s.est.rounds ++ [roundRecordOf s.ilc.entries] }
  let s2 := s1.withIlc { s1.ilc with round := none, waiting := none, entries := .const none }
  match s.ilc.waiting with
  | some set => beginRound set s2
  | none => s2

/-- After the outcome of a poll, ILC polls the next channel or completes the round (R82, R85). -/
def nextPoll (rd : Round) (s : State) : State :=
  match rd.poll.channel.next with
  | some z => sendPoll rd.carried z s
  | none => completeRound s

/-- The poll outstanding can no longer meet a good reply (R82). -/
def spoilPoll (rd : Round) (s : State) : State :=
  s.withIlc { s.ilc with round := some { rd with poll := { rd.poll with spoiled := true } } }

/-- Whether a channel number is that of a channel that has replied to its last poll decided. -/
def hasReplied (s : State) (n : Nat) : Bool :=
  (ZoneNo.ofNumber n).any fun z => s.ilc.replied.get z

/-- A reply frame arrives (R82). Without a poll outstanding, and after a reply to this poll that was not
good, its bytes are stray and are discarded. A bad check is a miss at once. A checked frame of another
channel that has replied before is that channel's second reply and is stray. A wrong start byte, any other
wrong channel and a status above 3 make the poll a miss, decided when its window closes (log 10). -/
def takeReply (r : InverterFrame) (s : State) : State :=
  match s.ilc.round with
  | none => s
  | some rd =>
    if rd.poll.spoiled then s
    else if r.start ≠ 0x72 then spoilPoll rd s
    else if !replyChecks r then nextPoll rd (missedReply rd.poll.channel true s)
    else if r.channel ≠ rd.poll.channel.number then
      if hasReplied s r.channel then s else spoilPoll rd s
    else
      match statusOf r.status with
      | some st => nextPoll rd (goodReply rd.poll.channel st r s)
      | none => spoilPoll rd s

/-- The reply window closes without a good reply: a miss (R82). DESIGN CHOICE (log 37): the polled channel
counts as having replied when its poll was spoiled, whatever channel's number the spoiling frame carried, and
a channel whose first reply came only after its window does not count. -/
def closeWindow (s : State) : State :=
  match s.ilc.round with
  | none => s
  | some rd => nextPoll rd (missedReply rd.poll.channel rd.poll.spoiled s)

/-- INVERTER_REPLY (R82). -/
def execInverterReply (r : InverterFrame) (s : State) : Host.Outcome State Fault Refusal :=
  .next (takeReply r s)

/-- REPLY_WINDOW_CLOSE (R82). -/
def execReplyWindowClose (s : State) : Host.Outcome State Fault Refusal := .next (closeWindow s)

/-! ### ZONE RESTORE (R88) -/

/-- The zone record after ZONE RESTORE (R88). DEDUCED (log 34): with the miss count 0 it takes three more
misses to return to FAULT (R84, R88), also where R89 speaks of a third miss that meets the restore. -/
def ZoneRecord.restored (z : ZoneRecord) : ZoneRecord :=
  match z.state with
  | .fault => { z with state := .active, missCount := 0 }
  | .active => z
  | .disabled => z

/-- ZONE RESTORE (R88). -/
def ilcRestore (n : Nat) (s : State) : State × Answer :=
  match ZoneNo.ofNumber n with
  | none => (s, .bare .range)
  | some z =>
    let r := (s.zones.get z).restored
    (s.withZones (s.zones.set z r),
      { status := .ok
        payload := leBytes 1 n ++ leBytes 1 r.state.code ++ leBytes 1 r.missCount
          ++ optBytes 1 (r.lastStatus.map (·.code)) })

/-- ZONE_RESTORE (R88). -/
def execZoneRestore (st : Station) (p : Sent Nat) (s : State) : Host.Outcome State Fault Refusal :=
  .next (command st 0x2A (.zoneRestore st p) p ilcRestore s)

end Sys2Proof.Machine
end

