-- ==== Sys2Proof/Machine/Thermal.lean ====
section
/-! DEFINITION. The arithmetic of the thermal estimate (chapter 2): apportioning, capacities, the
two-node update, the marks, and the measurement correction. -/

namespace Sys2Proof.Machine

/-! ### Apportioning (R34 to R37) -/

/-- The occupied length of a zone (R34). -/
def occupied (s : State) (z : ZoneNo) : Nat := (s.trk.row.map (overlap s z)).sum

/-- The share of a zone's entry that a row record receives (R34, R36). -/
def zoneShare (s : State) (r : RoundRecord) (b : Billet) (z : ZoneNo) : Nat :=
  match r.get z with
  | .energy e => e * overlap s z b / occupied s z
  | .void => 0

/-- A row record's energy for the round (R37). -/
def recordEnergy (s : State) (r : RoundRecord) (b : Billet) : Nat :=
  (ZoneNo.all.map (zoneShare s r b)).sum

/-- Whether a row record overlaps a VOID zone (R36). -/
def touchesVoid (s : State) (r : RoundRecord) (b : Billet) : Bool :=
  ZoneNo.all.any fun z => r.get z == .void && decide (0 < overlap s z b)

/-- Whether a zone has energy and no occupant (R35). -/
def idlePower (s : State) (r : RoundRecord) : Bool :=
  ZoneNo.all.any fun z =>
    match r.get z with
    | .energy e => decide (0 < e) && occupied s z == 0
    | .void => false

/-! ### The two-node update (R38 to R41) -/

/-- The capacities of a record in mJ/K: total, surface, core (R38, step 1). -/
structure Capacity where
  total : Nat
  surface : Nat
  core : Nat
deriving DecidableEq, Repr

/-- The capacities from a recipe's fields and a length (R38, step 1). -/
def capacity (f : RecipeFields) (len : Nat) : Capacity :=
  let total := f.cap * len
  let surface := total * f.surf / 256
  { total := total, surface := surface, core := total - surface }

/-- The induced energy splits and heats the nodes (R38, steps 2 to 4): Ts1 and Tc1. -/
def heated (f : RecipeFields) (c : Capacity) (eb ts tc : Nat) : Nat × Nat :=
  let es := eb * f.skin / 256
  let ec := eb - es
  (ts + nearestDiv (es * 10000) c.surface, tc + nearestDiv (ec * 10000) c.core)

/-- Conduction over Δt (R39): Ts2 and Tc2. -/
def conducted (f : RecipeFields) (c : Capacity) (dt ts1 tc1 : Nat) : Int × Int :=
  let k := min (f.cond * dt) 65536
  let d := towardZeroDiv (((ts1 : Int) - tc1) * k) 65536
  let m := towardZeroDiv (d * c.core) c.total
  ((ts1 : Int) - m, (tc1 : Int) + (d - m))

/-- The loss to ambient (R40): Ts3. -/
def cooled (f : RecipeFields) (dt : Nat) (ts2 : Int) : Int :=
  if 200 < ts2 then
    let j := min (f.loss * dt) 65536
    ts2 - towardZeroDiv ((ts2 - 200) * j) 65536
  else ts2

/-- The two-node update of one record: the new Ts and Tc (R38 to R41). -/
def twoNode (f : RecipeFields) (len eb dt ts tc : Nat) : Nat × Nat :=
  let c := capacity f len
  let h := heated f c eb ts tc
  let q := conducted f c dt h.1 h.2
  (saturateTemp (cooled f dt q.1), saturateTemp q.2)

/-! ### One record's update (R37, R42 to R44) -/

/-- Whether EST marks a record OVERHEATED: not a spacer, and Ts above TSMAX (R43). -/
def overheats (f : RecipeFields) (b : Billet) : Bool := b.recipe != 0 && decide (f.tsMax < b.ts)

/-- Whether EST marks a record OVERDWELL: not a spacer, and its dwell above MAXDWELL (R44). -/
def overdwells (s : State) (f : RecipeFields) (b : Billet) : Bool :=
  b.recipe != 0 && decide (f.maxDwell < dwell s b)

/-- The marks of a record after the tests of R43 and R44. -/
def testMarks (s : State) (f : RecipeFields) (b : Billet) : Billet :=
  { b with
    marks :=
      { b.marks with
        overheated := b.marks.overheated || overheats f b
        overdwell := b.marks.overdwell || overdwells s f b } }

/-- The update of one record with its energy and Δt: the energy total, the temperatures, the marks. -/
def updateBillet (s : State) (dt eb : Nat) (b : Billet) : Billet :=
  let f := recipeFields s b.recipe
  let t := twoNode f b.length eb dt b.ts b.tc
  testMarks s f { b with energy := min 4294967295 (b.energy + eb), ts := t.1, tc := t.2 }

/-- The update of a row record: a VOID zone that it overlaps makes it UNTRACKED (R36). -/
def updateRowBillet (s : State) (r : RoundRecord) (dt : Nat) (b : Billet) : Billet :=
  updateBillet s dt (recordEnergy s r b)
    (if touchesVoid s r b then { b with estimate := .untracked } else b)

/-- The update of a gate record: losses only (R42). -/
def updateGateBillet (s : State) (dt : Nat) (g : GateBillet) : GateBillet :=
  { g with billet := updateBillet s dt 0 g.billet }

/-- Whether an update has marked a record OVERHEATED that did not carry the mark (R43). -/
def newlyOverheated (before after : Billet) : Bool :=
  after.marks.overheated && !before.marks.overheated

/-! ### The measurement correction (R47) -/

/-- Ts after a sample: moved by the trust for a valid sample, unchanged for VOID. -/
def correctedTs (trust ts : Nat) : Option Nat → Nat
  | some m => saturateTemp ((ts : Int) + towardZeroDiv (((m : Int) - ts) * trust) 256)
  | none => ts

/-- A record corrected by a sample of a source, which becomes its last measurement. -/
def correctBillet (s : State) (src : Pyro) (m : Option Nat) (b : Billet) : Billet :=
  { b with ts := correctedTs (trust s src) b.ts m
           measurement := some { source := src, value := m } }

end Sys2Proof.Machine
end

