-- ==== Sys2Proof/Machine/Dispatcher.lean ====
section
/-! DEFINITION. The Zone Dispatcher (chapter 3): the demand law, the allocation of the budget, the
expiry of the dispatch timer, and the meanings of CADENCE, RUN, STOP, DISPATCH_STATUS, PERMIT_LOST,
PERMIT_PRESENT and DISPATCH_TIMER_EXPIRY. -/

namespace Sys2Proof.Machine

/-! ### The effective cadence (R52) -/

/-- The effective cadence. -/
inductive EffectiveCadence
  | running (cycle : Nat)
  | hold
  | idleInferred
deriving DecidableEq, Repr

/-- The effective cadence formed from the current cadence and the idle inference (R52). -/
def effectiveCadence (d : Dispatcher) : EffectiveCadence :=
  if d.inferred then .idleInferred
  else
    match d.cadence with
    | .running c => .running c
    | .hold => .hold

/-- Order in R76: RUNNING, HOLD, IDLE_INFERRED. -/
def EffectiveCadence.code : EffectiveCadence → Nat
  | .running _ => 0
  | .hold => 1
  | .idleInferred => 2

/-! ### The demand of a record (R66 to R70) -/

/-- Whether the surface guard holds a record back (R66). -/
def guardHolds (s : State) (b : Billet) : Bool :=
  b.recipe != 0 && !b.marks.overheated && !b.marks.overdwell
    && decide ((recipeFields s b.recipe).tsMax ≤ b.ts + 150)

/-- Whether a record demands power at all (R66). -/
def mayDemand (s : State) (b : Billet) : Bool :=
  b.recipe != 0 && !b.marks.overheated && !b.marks.overdwell
    && decide (b.ts + 150 < (recipeFields s b.recipe).tsMax)

/-- The midpoint of a record (R67). -/
def midpoint (b : Billet) : Nat := b.trailing + b.length / 2

/-- The zone whose span contains a position, zone 8 at R or beyond (R67). -/
def zoneAt (s : State) (m : Nat) : ZoneNo :=
  (ZoneNo.all.find? fun z => decide (m < zoneEnd s z)).getD .z8

/-- The goal of a record (R67). -/
def goal (f : RecipeFields) (eff : EffectiveCadence) (z : ZoneNo) : Nat :=
  match eff with
  | .running _ => f.tz.get z
  | .hold => min (f.tz.get z) f.holdT
  | .idleInferred => min (f.tz.get z) f.holdT

/-- The mean temperature (R68). -/
def meanTemp (c : Capacity) (ts tc : Nat) : Nat := (c.surface * ts + c.core * tc) / c.total

/-- The heat deficit in joules; 0 when the goal is not above the mean (R68). -/
def deficit (c : Capacity) (goal mean : Nat) : Nat := c.total * (goal - mean) / 10000

/-- The time in milliseconds over which the deficit is made good, before the floor of 1000 (R69). -/
def residence (f : RecipeFields) (eff : EffectiveCadence) (d : Nat) : Nat :=
  match eff with
  | .running c => max 1 (ceilDiv d f.lnom) * c
  | .hold => f.holdH * 1000
  | .idleInferred => f.holdH * 1000

/-- The demanded power of a row record in watts (R66 to R70). -/
def recordDemand (s : State) (b : Billet) : Nat :=
  if mayDemand s b then
    let f := recipeFields s b.recipe
    let eff := effectiveCadence s.dsp
    let m := midpoint b
    let z := zoneAt s m
    let c := capacity f b.length
    let h := deficit c (goal f eff z) (meanTemp c b.ts b.tc)
    h * 1000 / max 1000 (residence f eff (zoneEnd s z - m))
  else 0

/-! ### Zone demand and allocation (R71 to R74) -/

/-- The raw demand of a zone (R71). -/
def rawDemand (s : State) (z : ZoneNo) : Nat :=
  (s.trk.row.map fun b => recordDemand s b * overlap s z b / b.length).sum

/-- A demand capped to what a zone can take (R72). -/
def cappedDemand (r : ZoneRecord) (d : Nat) : Nat :=
  match r.state with
  | .disabled => 0
  | .fault => 0
  | .active =>
    let d := min d (r.rating.getD 0)
    if r.lastStatus = some .limit then min d (r.lastMean * 100 * 9 / 8) else d

/-- The eight capped demands (R72). -/
def zoneDemands (s : State) : PerZone Nat :=
  .tabulate fun z => cappedDemand (s.zones.get z) (rawDemand s z)

/-- The grants of a budget over demands (R73). -/
def allocate (budget : Nat) (d : PerZone Nat) : PerZone Nat :=
  if d.total ≤ budget then d else .tabulate fun z => d.get z * budget / d.total

/-- The setpoints of grants (R74). -/
def setpointsOf (grants : PerZone Nat) : PerZone Nat :=
  .tabulate fun z => min 8000 (grants.get z / 100)

/-! ### The expiry of the dispatch timer (R59) -/

/-- Step 1: a pending cadence is applied (R62). -/
def applyCadence (s : State) : State :=
  match s.dsp.pendingCadence with
  | none => s
  | some v =>
    s.withDsp
      { s.dsp with
        cadence := if v = 0 then .hold else .running (v * 100)
        pendingCadence := none
        inferred := false
        lastHandover := s.ms }

/-- Whether the press is inferred idle: RUNNING(c), no inference yet, a gate record, and more than 2 × c
since the last handover (R64). -/
def pressIdle (s : State) : Bool :=
  match s.dsp.cadence with
  | .hold => false
  | .running c =>
    !s.dsp.inferred && !s.trk.gate.isEmpty && decide (2 * c < s.ms - s.dsp.lastHandover)

/-- Step 2: the test for an unreported press stop (R64). -/
def inferIdle (s : State) : State :=
  if pressIdle s then s.withDsp { s.dsp with inferred := true } else s

/-- Set GUARDED on the row records that the guard holds back and clear it on every other record
(R66). -/
def setGuards (s : State) : State :=
  s.withTrk
    { s.trk with
      row := s.trk.row.map fun b => { b with marks := { b.marks with guarded := guardHolds s b } }
      gate := s.trk.gate.map fun g =>
        { g with billet := { g.billet with marks := { g.billet.marks with guarded := false } } } }

/-- Clear GUARDED from every record (R59). -/
def clearGuards (s : State) : State :=
  s.withTrk
    { s.trk with
      row := s.trk.row.map fun b => { b with marks := { b.marks with guarded := false } }
      gate := s.trk.gate.map fun g =>
        { g with billet := { g.billet with marks := { g.billet.marks with guarded := false } } } }

/-- Steps 3 and 4 but for the hand-over: the marks, and the stored grants, setpoints and total demand
(R59). -/
def computeGrants (s : State) : State :=
  match s.dsp.state with
  | .run =>
    let d := zoneDemands s
    let g := allocate s.pst.budget d
    (setGuards s).withDsp
      { s.dsp with grants := g, setpoints := setpointsOf g, totalDemand := d.total }
  | .stopped => haltHeating .stopped (clearGuards s)
  | .blocked => haltHeating .blocked (clearGuards s)

/-- Step 4: the stored setpoints and grants are handed to ILC (R59, R80). -/
def handGrants (s : State) : State :=
  handSet { setpoints := s.dsp.setpoints, grants := s.dsp.grants } s

/-- Step 5: the timer is restarted with the period of the LINE table (R58). -/
def restartTimer (s : State) : State :=
  s.withDsp { s.dsp with timerInterval := s.pst.period, timerExpiry := s.ms + s.pst.period }

/-- What DSP does at an expiry of the dispatch timer, in the order of R59. -/
def dispatchExpires (s : State) : State :=
  restartTimer (handGrants (computeGrants (inferIdle (applyCadence s))))

/-- The dispatch timer expires when it is due: an expiry of the timer that a loss of PERMIT has
restarted follows a full period later (R56, R58, log 3). -/
def dispatchTimerExpires (s : State) : State :=
  if s.dsp.timerExpiry ≤ s.ms then dispatchExpires s else s

/-- DISPATCH_TIMER_EXPIRY (R59). -/
def execDispatchTimerExpiry (s : State) : Host.Outcome State Fault Refusal :=
  .next (dispatchTimerExpires s)

/-! ### PERMIT (R56) -/

/-- The dispatch timer is due at once. -/
def makeExpiryDue (s : State) : State := s.withDsp { s.dsp with timerExpiry := s.ms }

/-- PERMIT becomes absent: STOPPED, PERMIT_OFF, and an immediate expiry. A level already absent does
not change (R56). -/
def permitBecomesAbsent (s : State) : State :=
  if s.permit then
    dispatchExpires
      (makeExpiryDue (raise .permitOff (haltHeating .stopped (s.withPermit false))))
  else s

/-- PERMIT_LOST (R56). -/
def execPermitLost (s : State) : Host.Outcome State Fault Refusal := .next (permitBecomesAbsent s)

/-- PERMIT_PRESENT (R56): DSP changes no state. -/
def execPermitPresent (s : State) : Host.Outcome State Fault Refusal := .next (s.withPermit true)

/-! ### Commands -/

/-- The stored value of a cycle (R61). -/
def storedCadence (v : Nat) : Nat := if v = 0 then 0 else clamp 20 1200 v

/-- CADENCE (R61). -/
def dspCadence (v : Nat) (s : State) : State × Answer :=
  let stored := storedCadence v
  let replaced := s.dsp.pendingCadence.isSome
  (s.withDsp { s.dsp with pendingCadence := some stored },
    { status := if stored ≠ v then .okClamped else if replaced then .okReplaced else .ok
      payload := leBytes 2 stored ++ leBytes 1 (flagCode replaced) })

/-- The first check of RUN that fails (R54). -/
def runRefusal (s : State) : Option Status :=
  if !s.permit then some .noPermit
  else if s.pst.budget = 0 then some .noBudget
  else if s.trk.state = .uncertain then some .uncertain
  else none

/-- The reply of RUN carries the dispatcher state after the command (R54). -/
def runAnswer (status : Status) (s : State) : Answer :=
  { status := status, payload := leBytes 1 s.dsp.state.code }

/-- RUN (R54). -/
def dspRun (s : State) : State × Answer :=
  if s.dsp.state = .run then (s, runAnswer .ok s)
  else
    match runRefusal s with
    | some e => (s, runAnswer e s)
    | none =>
      let t := s.withDsp { s.dsp with state := .run }
      (t, runAnswer .ok t)

/-- STOP (R55). -/
def dspStop (s : State) : State × Answer :=
  if s.dsp.state = .stopped then (s, .bare .ok) else (haltHeating .stopped s, .bare .ok)

/-- The handover age in tenths of a second, saturating (R76). -/
def handoverAge (s : State) : Nat := min 65535 ((s.ms - s.dsp.lastHandover) / 100)

/-- The current cadence in tenths of a second, 0 for HOLD (R76). -/
def cadenceTenths : Cadence → Nat
  | .hold => 0
  | .running c => c / 100

/-- How many records carry GUARDED (R76). -/
def guardedCount (s : State) : Nat :=
  (mapOrder s).countP fun p => p.billet.marks.guarded

/-- The reply of DISPATCH STATUS (R76). -/
def statusBytes (s : State) : List Byte :=
  let d := s.dsp
  leBytes 1 d.state.code ++ leBytes 1 s.trk.state.code ++ leBytes 1 (firstOfTwo s.permit)
    ++ leBytes 2 (cadenceTenths d.cadence) ++ optBytes 2 d.pendingCadence
    ++ leBytes 1 (effectiveCadence d).code ++ leBytes 2 (handoverAge s)
    ++ leBytes 3 s.pst.budget ++ leBytes 1 s.pst.period ++ leBytes 3 d.totalDemand
    ++ (d.grants.toList.map (leBytes 3)).flatten ++ (d.setpoints.toList.map (leBytes 2)).flatten
    ++ leBytes 1 (guardedCount s)

/-- DISPATCH STATUS (R76). -/
def dspStatus (s : State) : State × Answer := (s, { status := .ok, payload := statusBytes s })

/-- CADENCE (R61). -/
def execCadence (st : Station) (p : Sent Nat) (s : State) : Host.Outcome State Fault Refusal :=
  .next (command st 0x23 (.cadence st p) p dspCadence s)

/-- RUN (R54). -/
def execRun (st : Station) (p : Sent Unit) (s : State) : Host.Outcome State Fault Refusal :=
  .next (command st 0x28 (.run st p) p (fun _ => dspRun) s)

/-- STOP (R55). -/
def execStop (st : Station) (p : Sent Unit) (s : State) : Host.Outcome State Fault Refusal :=
  .next (command st 0x29 (.stop st p) p (fun _ => dspStop) s)

/-- DISPATCH_STATUS (R76). -/
def execDispatchStatus (st : Station) (p : Sent Unit) (s : State) :
    Host.Outcome State Fault Refusal :=
  .next (command st 0x2B (.dispatchStatus st p) p (fun _ => dspStatus) s)

end Sys2Proof.Machine
end

