-- ==== Sys2Proof/Machine/Verdicts.lean ====
section
/-! DEFINITION. The exit verdict and the pyrometer inputs (chapter 5): the evaluation, the first
verdict, re-evaluation, and the meanings of PYROMETER_SAMPLE, SAMPLE_FRAME_START, DROPPED_FRAME,
PYRO_BYTE_TIMEOUT, SETTLE_TIMER_EXPIRY and WAIT_TIMER_EXPIRY. -/

namespace Sys2Proof.Machine

/-! ### Evaluation (R102 to R104) -/

/-- The window test of a TRACKED record (R103). -/
def windowTest (f : RecipeFields) (ts tc : Nat) (exitM : Option Nat) : Verdict :=
  let hot := max ts (exitM.getD 0)
  if f.tsHi < hot then .over
  else if ts < f.tsLo ∨ tc < f.tcMin then .under
  else .ready

/-- The measured band of an UNTRACKED record (R104). -/
def measuredBand (f : RecipeFields) (m : Nat) : Verdict :=
  if m < f.tsLo then .under else if f.tsHi < m then .over else .ready

/-- The verdict by the lines of R102. -/
def evaluate (f : RecipeFields) (b : Billet) (exitM : Option Nat) : Verdict :=
  if b.recipe = 0 then .spacer
  else if b.marks.overheated then .over
  else if b.marks.overdwell then .overdwell
  else
    match b.estimate with
    | .untracked =>
      match exitM with
      | none => .suspect
      | some m => if f.acceptMeasured = 0 then .suspect else measuredBand f m
    | .tracked => windowTest f b.ts b.tc exitM

/-- The verdict of the gate front as it would be evaluated now (R102, R108). -/
def evaluateFront (s : State) (g : GateBillet) : Verdict :=
  evaluate (recipeFields s g.billet.recipe) g.billet s.evu.exitM

/-! ### Re-evaluation (R105, R106) -/

/-- READY and UNDER are provisional; every other decided verdict is final (R105). -/
def Verdict.provisional : Verdict → Bool
  | .pending => false
  | .ready => true
  | .under => true
  | .over => false
  | .suspect => false
  | .spacer => false
  | .overdwell => false

/-- EVU stores a different verdict of the front, raises VERDICT, and tells PHU when the front has left
READY (R106, R118). -/
def changeVerdict (g : GateBillet) (v : Verdict) (s : State) : State :=
  let s1 := raise .verdict (setGateFront { g with verdict := v } s)
  if g.verdict = .ready then frontLeftReady g.billet.tag s1 else s1

/-- EVU re-evaluates a READY or UNDER front (R105, R106). -/
def reevaluate (s : State) : State :=
  match gateFront s with
  | none => s
  | some g =>
    if g.verdict.provisional then
      if evaluateFront s g = g.verdict then s else changeVerdict g (evaluateFront s g) s
    else s

/-! ### The first verdict (R101) -/

/-- A valid exit sample becomes the exit measurement; VOID leaves it (R101 step 1, R105). -/
def noteExit (m : Option Nat) (s : State) : State :=
  match m with
  | some v => s.withEvu { s.evu with exitM := some v }
  | none => s

/-- The correction of the front by an exit sample (R101 step 1, R105). -/
def correctFront (m : Option Nat) (s : State) : State :=
  match gateFront s with
  | none => s
  | some g => setGateFront { g with billet := correctBillet s .b m g.billet } s

/-- The evaluation, result and notice of a first verdict (R101, steps 2 to 4). -/
def decideFirst (s : State) : State :=
  match gateFront s with
  | none => s
  | some g =>
    raise .verdict
      ((setGateFront { g with verdict := evaluateFront s g } s).withEvu
        { s.evu with phase := .decided, settle := none, wait := none })

/-- After the correction of the front by an exit sample, EVU decides an AWAITING front, or re-evaluates
a DECIDED one when the sample is valid (R48, R101, R105). -/
def afterExit (m : Option Nat) (s : State) : State :=
  match s.evu.phase with
  | .noFront => s
  | .settling => s
  | .awaiting => decideFirst (noteExit m s)
  | .decided => if m.isSome then reevaluate (noteExit m s) else s

/-- EVU takes an exit sample in the front phase that stands (R99, R101, R105). -/
def exitSample (m : Option Nat) (s : State) : State :=
  match s.evu.phase with
  | .noFront => s
  | .settling => s
  | .awaiting => afterExit m (correctFront m s)
  | .decided => afterExit m (correctFront m s)

/-- The settle timer expires (R99). A timer that is stopped, or that has been started afresh and is not
yet due, does not expire (R107, log 3). -/
def settleExpires (s : State) : State :=
  if !due s s.evu.settle then s
  else
    match s.evu.phase with
    | .settling => s.withEvu { s.evu with settle := none, phase := .awaiting }
    | .noFront => s.withEvu { s.evu with settle := none }
    | .awaiting => s.withEvu { s.evu with settle := none }
    | .decided => s.withEvu { s.evu with settle := none }

/-- The wait timer expires: an AWAITING front's first verdict is decided without a sample (R100). A timer
that is stopped or not yet due does not expire (R107), nor does it before the settle of its front
(log 3). -/
def waitExpires (s : State) : State :=
  if !due s s.evu.wait then s
  else
    match s.evu.phase with
    | .awaiting => decideFirst (s.withEvu { s.evu with wait := none })
    | .settling => s
    | .noFront => s.withEvu { s.evu with wait := none }
    | .decided => s.withEvu { s.evu with wait := none }

/-! ### The inputs (R92, R93, R95) -/

/-- A sample as it is judged: a value from 3000 to 14000 is valid, any other is VOID (R93). -/
def judged (value : Nat) : Option Nat := if 3000 ≤ value ∧ value ≤ 14000 then some value else none

/-- Replace the state of an input. -/
def setPyro (src : Pyro) (v : PyroInput) (s : State) : State :=
  match src with
  | .a => s.withPya v
  | .b => s.withPyb v

/-- The row record whose span covers X_A (R95). -/
def selected (s : State) : Option Billet :=
  s.trk.row.find? fun b => decide (b.trailing ≤ s.pst.positionA ∧ s.pst.positionA < b.leading)

/-- PYA hands EST a correction for the selected record, unless the track is PUSHING (R95). -/
def rowSample (m : Option Nat) (s : State) : State :=
  match s.trk.state, selected s with
  | .pushing, _ => s
  | _, none => s
  | _, some b =>
    s.withEst
      { s.est with
        corrections := s.est.corrections ++ [{ tag := b.tag, source := .a, sample := m }] }

/-- A checked sample arrives: it is judged and stored, and handed on (R93). -/
def takeSample (src : Pyro) (value : Nat) (s : State) : State :=
  let m := judged value
  let s1 := setPyro src
    { frame := [], lastSample := some { value := value, valid := m.isSome } } s
  match src with
  | .a => rowSample m s1
  | .b => exitSample m s1

/-- The input returns to hunting, with nothing else changed (R92). -/
def huntPyro (src : Pyro) (s : State) : State :=
  setPyro src { pyroInput s src with frame := [] } s

/-- The value of a sample frame, low byte first (R92). -/
def sampleValue (frame : List Byte) : Nat := (frame.getD 1 0).toNat + 256 * (frame.getD 2 0).toNat

/-- A byte without a line fault arrives on a pyrometer input: a hunting input discards all but 0xC3; the
fourth byte of a frame completes it, and the sample is taken or the frame dropped by the sum of its four
bytes (R92). -/
def receiveSampleByte (src : Pyro) (s : State) (b : Byte) : State :=
  match (pyroInput s src).frame with
  | [] => if b = 0xC3 then setPyro src { pyroInput s src with frame := [b] } s else s
  | start :: more =>
    let frame := start :: (more ++ [b])
    if frame.length < 4 then setPyro src { pyroInput s src with frame := frame } s
    else if byteSum frame = 0 then takeSample src (sampleValue frame) s
    else huntPyro src s

/-- The bytes of a sample frame reach the input one by one (R92). -/
def receiveSample (src : Pyro) (bytes : List Byte) (s : State) : State :=
  bytes.foldl (receiveSampleByte src) s

/-- PYROMETER_SAMPLE (R92, R93). -/
def execPyrometerSample (src : Pyro) (bytes : List Byte) (s : State) :
    Host.Outcome State Fault Refusal :=
  .next (receiveSample src bytes s)

/-- SAMPLE_FRAME_START (R92): a byte 0xC3 begins a frame; within a frame it is a byte of it. -/
def execSampleFrameStart (src : Pyro) (s : State) : Host.Outcome State Fault Refusal :=
  .next (receiveSampleByte src s 0xC3)

/-- DROPPED_FRAME (R92): a byte with its stop bit at space drops the partial frame; a hunting input
discards the byte. -/
def execDroppedFrame (src : Pyro) (s : State) : Host.Outcome State Fault Refusal :=
  .next (huntPyro src s)

/-- PYRO_BYTE_TIMEOUT (R92). -/
def execPyroByteTimeout (src : Pyro) (s : State) : Host.Outcome State Fault Refusal :=
  .next (huntPyro src s)

/-- SETTLE_TIMER_EXPIRY (R99). -/
def execSettleTimerExpiry (s : State) : Host.Outcome State Fault Refusal := .next (settleExpires s)

/-- WAIT_TIMER_EXPIRY (R100). -/
def execWaitTimerExpiry (s : State) : Host.Outcome State Fault Refusal := .next (waitExpires s)

end Sys2Proof.Machine
end

