-- ==== Sys2Proof/Machine/Estimator.lean ====
section
/-! DEFINITION. The meanings of ROUND_RECORD and MEASUREMENT_CORRECTION: what EST does with what ILC
and the row pyrometer hand it (chapter 2). -/

namespace Sys2Proof.Machine

/-- Δt of a round (R33). -/
def roundInterval (s : State) : Nat :=
  match s.est.lastRound with
  | none => s.pst.period
  | some t => clamp 1 1000 (s.ms - t)

/-- A list without its head, when the head is the item taken. -/
def dropTaken {α : Type} [DecidableEq α] (a : α) : List α → List α
  | [] => []
  | x :: xs => if x = a then xs else x :: xs

/-- The records after the update of a round (R32, steps 2 and 3). -/
def updatedTrack (s : State) (r : RoundRecord) : Track :=
  let dt := roundInterval s
  { s.trk with
    row := s.trk.row.map (updateRowBillet s r dt)
    gate := s.trk.gate.map (updateGateBillet s dt) }

/-- Whether a round makes a TRACKED record UNTRACKED (R36). -/
def roundUntracks (s : State) (r : RoundRecord) : Bool :=
  s.trk.row.any fun b => b.estimate == .tracked && touchesVoid s r b

/-- Whether a round marks a record OVERHEATED (R43). -/
def roundOverheats (s : State) (r : RoundRecord) : Bool :=
  let dt := roundInterval s
  s.trk.row.any (fun b => newlyOverheated b (updateRowBillet s r dt b))
    || s.trk.gate.any fun g => newlyOverheated g.billet (updateGateBillet s dt g).billet

/-- EST stores the arrival time and updates every record, with the notices of R51 (R32, steps 1
to 3). -/
def updateRecords (r : RoundRecord) (s : State) : State :=
  let s1 := (s.withTrk (updatedTrack s r)).withEst
    { s.est with lastRound := some s.ms, rounds := dropTaken r s.est.rounds }
  raiseIf (roundOverheats s r) .overheat
    (raiseIf (roundUntracks s r) .untracked (raiseIf (idlePower s r) .idlePower s1))

/-- EST takes a round record whole and tells EVU, which re-evaluates the front (R32, R46). -/
def takeRound (r : RoundRecord) (s : State) : State := reevaluate (updateRecords r s)

/-- EST applies a correction to the record of the row or the gate that the tag names, and drops it when
there is none (R47, R48). -/
def applyCorrection (c : Correction) (s : State) : State :=
  updateTag c.tag (correctBillet s c.source c.sample)
    (s.withEst { s.est with corrections := dropTaken c s.est.corrections })

/-- EST takes a correction. One from source B of the gate front is followed by EVU's decision or
re-evaluation, one from source A by none (R48). -/
def takeCorrection (c : Correction) (s : State) : State :=
  let t := applyCorrection c s
  match c.source with
  | .a => t
  | .b => if (gateFront t).any (fun g => g.billet.tag == c.tag) then afterExit c.sample t else t

/-- ROUND_RECORD (R32). -/
def execRoundRecord (r : RoundRecord) (s : State) : Host.Outcome State Fault Refusal :=
  .next (takeRound r s)

/-- MEASUREMENT_CORRECTION (R47). -/
def execMeasurementCorrection (c : Correction) (s : State) : Host.Outcome State Fault Refusal :=
  .next (takeCorrection c s)

end Sys2Proof.Machine
end

