-- ==== Sys2Proof/Machine/Handover.lean ====
section
/-! DEFINITION. The meanings of the handover rows (chapter 6): RESERVE, TAKE, DISCARD and
LAPSE_TIMER_EXPIRY. -/

namespace Sys2Proof.Machine

/-- The payload of an OK answer to RESERVE (R111). -/
def reserveBytes (s : State) (g : GateBillet) : List Byte :=
  leBytes 2 g.billet.tag ++ leBytes 1 g.billet.recipe ++ leBytes 1 g.billet.lot
    ++ leBytes 2 g.billet.ts ++ leBytes 2 g.billet.tc ++ optBytes 2 s.evu.exitM

/-- RESERVE (R111). -/
def phuReserve (s : State) : State × Answer :=
  match gateFront s with
  | none => (s, .bare .noBillet)
  | some g =>
    if g.verdict = .ready then
      (s.withPhu (some { tag := g.billet.tag, lapse := s.ms + 4000 }),
        { status := .ok, payload := reserveBytes s g })
    else
      (s,
        { status := .notReady
          payload := leBytes 2 g.billet.tag ++ leBytes 1 g.verdict.code })

/-- The front that a TAKE of a tag takes: a reservation stands and names the tag, and the gate front
has it (R114). -/
def takeable (s : State) (tag : Nat) : Option GateBillet :=
  if tag ≠ 0 ∧ s.phu.any (fun r => r.tag == tag) then
    (gateFront s).filter fun g => g.billet.tag == tag
  else none

/-- The OK answer to TAKE and DISCARD: the record as it stood, the exit measurement, and the generation
after the removal (R114, R116). -/
def handOverAnswer (s t : State) (g : GateBillet) : Answer :=
  { status := .ok, payload := finalRecordBytes s g s.evu.exitM t.trk.generation }

/-- TAKE (R114). -/
def phuTake (tag : Nat) (s : State) : State × Answer :=
  match takeable s tag with
  | none => (s, .bare .lost)
  | some g =>
    let t := handOver Lot.forge g.billet s
    (t, handOverAnswer s t g)

/-- DISCARD (R116). -/
def phuDiscard (tag : Nat) (s : State) : State × Answer :=
  match gateFront s with
  | none => (s, .bare .noBillet)
  | some g =>
    if g.billet.tag ≠ tag then (s, .bare .tagMismatch)
    else
      let t := handOver Lot.reject g.billet s
      (t, handOverAnswer s t g)

/-- RESERVE (R111). -/
def execReserve (st : Station) (p : Sent Unit) (s : State) : Host.Outcome State Fault Refusal :=
  .next (command st 0x20 (.reserve st p) p (fun _ => phuReserve) s)

/-- TAKE (R114). -/
def execTake (st : Station) (p : Sent Nat) (s : State) : Host.Outcome State Fault Refusal :=
  .next (command st 0x21 (.take st p) p phuTake s)

/-- DISCARD (R116). -/
def execDiscard (st : Station) (p : Sent Nat) (s : State) : Host.Outcome State Fault Refusal :=
  .next (command st 0x22 (.discard st p) p phuDiscard s)

/-- The lapse timer expires 4.0 s after the latest RESERVE; before that, and without a reservation, it
does not (R112, R113, log 3). -/
def lapseExpires (s : State) : State :=
  if due s (s.phu.map (·.lapse)) then loseReservation s else s

/-- LAPSE_TIMER_EXPIRY (R113). -/
def execLapseTimerExpiry (s : State) : Host.Outcome State Fault Refusal := .next (lapseExpires s)

end Sys2Proof.Machine
end

