-- ==== Sys2Proof/Machine/Links.lean ====
section
/-! DEFINITION. The meanings of the reset and link rows: POWER_ON_RESET, BREAK, BREAK_END,
PRESS_LINK_RESET, FRAME_START, FRAME_RECEIVED, FRAME_GAP_TIMEOUT, PARITY_ERROR, UNKNOWN_COMMAND,
REPLY_START, REPLY_SENT. -/

namespace Sys2Proof.Machine

/-- The address that the straps give: 0 reads as 1 (R148). -/
def strapAddress (straps : BitVec 4) : Nat := if straps = 0 then 1 else straps.toNat

/-- Power-on reset: every block takes its power-on state (R9, R31, R52, R79, R86, R93, R97, R110,
R123, R124, R134, R143, R154, R159) and the straps are read (R148). The level of PERMIT is an input and
stays (R56); the queue is the senders' (log 6). -/
def powerOn (straps : BitVec 4) (s : State) : State :=
  { State.reset with unit := strapAddress straps, permit := s.permit, pending := s.pending }

/-- POWER_ON_RESET (R9). -/
def execPowerOnReset (straps : BitVec 4) (s : State) : Host.Outcome State Fault Refusal :=
  .next (powerOn straps s)

/-- A link reset (R152): once for a break, and not while SLU-S drives the pair. With no press command
under execution PHU is told at once (R120). -/
def linkReset (st : Station) (s : State) : State :=
  if (s.links.get st).lineBreak || (st == .supervisor && driverEnable s) then s
  else
    let s := setLink st (s.links.get st).afterBreak s
    if st == .press then
      let s := setLink .press { s.links.press with resetOwed := true } s
      if resetDue s then tellReset s else s
    else s

/-- BREAK (R152). -/
def execLinkBreak (st : Station) (s : State) : Host.Outcome State Fault Refusal :=
  .next (linkReset st s)

/-- SLU-P tells PHU of the reset once any command under execution has completed (R120). -/
def pressReset (s : State) : State :=
  match s.links.press.executing with
  | some _ => setLink .press { s.links.press with resetOwed := true } s
  | none => tellReset s

/-- PRESS_LINK_RESET (R120). -/
def execPressLinkReset (s : State) : Host.Outcome State Fault Refusal := .next (pressReset s)

/-- FRAME_RECEIVED (R147 to R149): the bytes reach the receiver one by one. -/
def execFrameReceived (st : Station) (bytes : List Byte) (s : State) :
    Host.Outcome State Fault Refusal :=
  .next (bytes.foldl (receiveByte st) s)

/-- The fault of a frame in reception; a receiver that hunts discards the byte without notice
(R147). -/
def receptionFault (st : Station) (s : State) : State :=
  if (s.links.get st).isReceiving then discardFaulty st s else s

/-- FRAME_GAP_TIMEOUT (R147). -/
def execFrameGapTimeout (st : Station) (s : State) : Host.Outcome State Fault Refusal :=
  .next (receptionFault st s)

/-- UNKNOWN_COMMAND (R150, check 1): refused, with no change of state but the link's reply. -/
def execUnknownCommand (st : Station) (cmd : Byte) (s : State) : Host.Outcome State Fault Refusal :=
  .next (reply st (.unknownCommand st cmd) (.bare .unknownCommand) (settleReset st s))

/-- A ready reply of SLU-S begins when no frame is being received (R144). -/
def startReply (s : State) : State :=
  let l := s.links.supervisor
  match l.transmitter with
  | .ready frame =>
    if l.isReceiving then s else setLink .supervisor { l with transmitter := .sending frame } s
  | .sending _ => s
  | .idle => s

/-- REPLY_START (R144). -/
def execReplyStart (s : State) : Host.Outcome State Fault Refusal := .next (startReply s)

/-- The transmitter finishes and the unit may take its next frame (R150). -/
def finishReply (st : Station) (s : State) : State :=
  let l := s.links.get st
  match l.transmitter with
  | .sending _ => takeFrame st (setLink st { l with transmitter := .idle } s)
  | .ready _ => s
  | .idle => s

/-- REPLY_SENT (R150). -/
def execReplySent (st : Station) (s : State) : Host.Outcome State Fault Refusal :=
  .next (finishReply st s)

/-- FRAME_START (R147): a byte 0xA5. -/
def execFrameStart (st : Station) (s : State) : Host.Outcome State Fault Refusal :=
  .next (receiveByte st s 0xA5)

/-- PARITY_ERROR (R147). -/
def execParityError (st : Station) (s : State) : Host.Outcome State Fault Refusal :=
  .next (receptionFault st s)

/-- BREAK_END (R152): the line is at mark again, and a later break can be detected. -/
def execBreakEnd (st : Station) (s : State) : Host.Outcome State Fault Refusal :=
  .next (setLink st { s.links.get st with lineBreak := false } s)

end Sys2Proof.Machine
end

