-- ==== Sys2Proof/Machine/Tracks.lean ====
section
/-! DEFINITION. The meanings of the track rows (chapter 1): MAP, BILLET, CLASSIFY, PUSH_REQUEST,
PUSH_DONE, PUSH_CANCEL, PUSH_TIMER_EXPIRY, RESYNC, PURGE. -/

namespace Sys2Proof.Machine

/-! ### Queries (section 1.8) -/

/-- MAP (R28). -/
def trkMap (x : MapArgs) (s : State) : State × Answer :=
  if x.count = 0 ∨ 3 < x.count then (s, .bare .range)
  else
    let all := mapOrder s
    (s,
      { status := .ok
        payload := leBytes 2 s.trk.generation ++ leBytes 1 s.trk.state.code ++ leBytes 1 all.length
          ++ leBytes 1 x.first
          ++ (((all.drop x.first).take x.count).map (summaryBytes s)).flatten })

/-- The reply of BILLET for a record of the row or the gate, with its index in MAP order (R29,
log 17). -/
def billetBytes (s : State) (index : Nat) (p : Placed) : List Byte :=
  leBytes 2 s.trk.generation ++ leBytes 1 (flagCode p.gate.isSome) ++ leBytes 1 index
    ++ recordBytes p.billet ++ leBytes 2 p.billet.leading ++ leBytes 4 (dwell s p.billet)
    ++ measurementBytes p.billet.measurement
    ++ optBytes 1 (p.verdict.map (·.code)) ++ optBytes 6 (p.gate.bind (·.frontTime))

/-- The reply of BILLET for the pending push: place PENDING and the fields of R6, with the track
state (R29). -/
def pendingBytes (s : State) (p : PendingPush) : List Byte :=
  leBytes 2 s.trk.generation ++ leBytes 1 2 ++ leBytes 2 p.tag ++ leBytes 1 p.recipe
    ++ leBytes 2 p.length ++ leBytes 1 p.lot ++ leBytes 2 p.entryTemp ++ leBytes 6 p.grantTime
    ++ leBytes 1 s.trk.state.code

/-- The index and record of a tag in MAP order. -/
def findTag (s : State) (tag : Nat) : Option (Nat × Placed) :=
  let all := mapOrder s
  (all.findIdx? fun p => p.billet.tag == tag).bind fun i => (all[i]?).map fun p => (i, p)

/-- BILLET (R29). -/
def trkBillet (tag : Nat) (s : State) : State × Answer :=
  if tag = 0 then (s, .bare .range)
  else
    match findTag s tag with
    | some (i, p) => (s, { status := .ok, payload := billetBytes s i p })
    | none =>
      match s.trk.push.filter fun p => p.tag == tag with
      | some p => (s, { status := .ok, payload := pendingBytes s p })
      | none => (s, .bare .noBillet)

/-- CLASSIFY (R30). -/
def trkClassify (mask : BitVec 16) (s : State) : State × Answer :=
  if mask = 0 ∨ mask.toNat ≥ 512 then (s, .bare .range)
  else
    let hits := (mapOrder s).filter fun p => decide (p.classes &&& mask ≠ 0)
    (s,
      { status := .ok
        payload := leBytes 2 s.trk.generation ++ leBytes 1 hits.length
          ++ ((hits.take 24).map fun p => leBytes 2 p.billet.tag).flatten })

/-! ### Admission by LOT (R139) -/

/-- The spacers that the changeover test asks for before a push to a lot: 0 when no other recipe came
before (R139). -/
def spacersAsked (s : State) (l : Lot) : Nat :=
  match s.lot.lastRecipe with
  | none => 0
  | some r =>
    if r = l.recipe then 0 else max (recipeFields s l.recipe).spacers (recipeFields s r).spacers

/-- LOT admits a push with its lot number, or refuses it (R139). DEDUCED (log 36): after the newest of two
lots has closed, the remaining lot is the newest. It admits pushes without a LOT OPEN if LOT ADJUST has
raised its to-load, and a push of another recipe is refused RECIPE_MISMATCH by the order of R139's table,
where its last bullet names NO_LOT or LOT_DONE. -/
def lotAdmits (s : State) (recipe : Nat) : Except Status Nat :=
  if recipe = 0 then .ok 0
  else
    match s.lot.queue.getLast? with
    | none => .error .noLot
    | some l =>
      if recipe ≠ l.recipe then .error .recipeMismatch
      else if l.toLoad = 0 ∨ 65535 ≤ l.loaded then .error .lotDone
      else if s.lot.spacers < spacersAsked s l then .error .spacerNeeded
      else .ok l.number

/-! ### The push protocol (section 1.4) -/

/-- The seven checks of PUSH REQUEST, in order: the first refusal, or the lot number (R13). -/
def pushChecks (s : State) (x : PushArgs) : Except Status Nat :=
  match s.trk.state with
  | .pushing => .error .busy
  | .uncertain => .error .uncertain
  | .idle =>
    if x.tag = 0 then .error .range
    else if tagHeld s x.tag then .error .tagDup
    else if x.length < 60 ∨ 600 < x.length then .error .range
    else if !recipeValid s x.recipe then .error .recipeInvalid
    else
      match lotAdmits s x.recipe with
      | .error e => .error e
      | .ok lot =>
        if 40 + movedBy s x.length < s.trk.row.length + 1 then .error .trackFull
        else if 2 < s.trk.gate.length + movedBy s x.length then .error .gateFull
        else .ok lot

/-- The entry temperature stored at a grant: 20.0 °C when absent, clamped to 600.0 °C (R14). -/
def grantedTemp : Option Nat → Nat
  | none => 200
  | some t => min t 6000

/-- The pending push of a grant (R14). -/
def grantedPush (s : State) (x : PushArgs) (lot : Nat) : PendingPush :=
  { tag := x.tag, recipe := x.recipe, lot := lot, length := x.length,
    entryTemp := grantedTemp x.entryTemp, grantTime := s.ms }

/-- PUSH REQUEST (R13, R14). -/
def trkPushRequest (x : PushArgs) (s : State) : State × Answer :=
  match pushChecks s x with
  | .error e => (s, .bare e)
  | .ok lot =>
    let p := grantedPush s x lot
    (s.withTrk { s.trk with push := some p, state := .pushing, timer := some (s.ms + 10000) },
      { status := if x.entryTemp.any fun t => decide (6000 < t) then .okClamped else .ok
        payload := leBytes 2 p.tag ++ leBytes 1 p.lot ++ leBytes 2 p.entryTemp
          ++ leBytes 2 s.trk.generation })

/-- Whether a stroke is within 8 mm of a length (R16). -/
def withinTolerance (stroke len : Nat) : Bool := decide (stroke ≤ len + 8 ∧ len ≤ stroke + 8)

/-- The reply items that follow an applied or dropped push: records moved, row and gate counts, and the
generation (R16, R23). -/
def movedBytes (moved : Nat) (t : State) : List Byte :=
  leBytes 1 moved ++ leBytes 1 t.trk.row.length ++ leBytes 1 t.trk.gate.length
    ++ leBytes 2 t.trk.generation

/-- PUSH DONE (R16, R18). The slip indicator is the first item of the reply (log 15). -/
def trkPushDone (x : PushDoneArgs) (s : State) : State × Answer :=
  match s.trk.state, s.trk.push with
  | .pushing, some p =>
    if x.tag ≠ p.tag then (s, .bare .tagMismatch)
    else if withinTolerance x.stroke p.length then
      let t := applyPush p .tracked s
      (t,
        { status := .ok
          payload := leBytes 1 (flagCode false) ++ leBytes 2 x.stroke ++ leBytes 2 p.length
            ++ movedBytes (movedBy s p.length) t })
    else
      (enterUncertain s,
        { status := .ok
          payload := leBytes 1 (flagCode true) ++ leBytes 2 x.stroke ++ leBytes 2 p.length
            ++ leBytes 2 s.trk.generation })
  | _, _ => (s, .bare .noPush)

/-- PUSH CANCEL (R19). -/
def trkPushCancel (tag : Nat) (s : State) : State × Answer :=
  match s.trk.state, s.trk.push with
  | .pushing, some p =>
    if tag ≠ p.tag then (s, .bare .tagMismatch) else (dropPush s, .bare .ok)
  | _, _ => (s, .bare .noPush)

/-- The push timer expires: with the track PUSHING it becomes UNCERTAIN (R20). A timer that is stopped
or not yet due does not expire (log 3). -/
def pushTimerExpires (s : State) : State :=
  if !due s s.trk.timer then s
  else if s.trk.state = .pushing then enterUncertain s
  else s.withTrk { s.trk with timer := none }

/-! ### RESYNC and PURGE (section 1.6) -/

/-- RESYNC "not applied": the pending push is dropped and the generation counts up (R23). -/
def resyncNotApplied (s : State) : State :=
  let s := s.withTrk { s.trk with generation := nextGeneration s.trk.generation }
  dispatcherUnblocks (dropPush s)

/-- RESYNC "applied": the pending push is applied and its record is UNTRACKED (R23). -/
def resyncApplied (s : State) : State :=
  match s.trk.push with
  | some p => dispatcherUnblocks (applyPush p .untracked s)
  | none => resyncNotApplied s

/-- The records that RESYNC "applied" moves to the gate. -/
def resyncMoved (s : State) : Nat := (s.trk.push.map fun p => movedBy s p.length).getD 0

/-- RESYNC (R23). -/
def trkResync (decision : Nat) (s : State) : State × Answer :=
  match s.trk.state with
  | .idle => (s, .bare .busy)
  | .pushing => (s, .bare .busy)
  | .uncertain =>
    match decision with
    | 0 =>
      let t := resyncNotApplied s
      (t, { status := .ok, payload := movedBytes 0 t })
    | 1 =>
      let t := resyncApplied s
      (t, { status := .ok, payload := movedBytes (resyncMoved s) t })
    | _ => (s, .bare .range)

/-- LOT counts every removed record that is not a spacer as lost (R25, R141). -/
def countLost (bs : List Billet) (s : State) : State :=
  bs.foldl (fun s b => countRemoved Lot.lose b s) s

/-- PURGE (R25): the track is emptied, the lots count, the reservation is cleared, the gate is reported
empty, and a dispatcher that was BLOCKED for the uncertainty returns to RUN. -/
def purgeTrack (s : State) : State :=
  let removed := s.trk.row ++ s.trk.gate.map (·.billet)
  let s1 := s.withTrk
    { row := [], gate := [], push := none, state := .idle, timer := none,
      generation := nextGeneration s.trk.generation }
  let s2 := reportFront (loseReservation (closeLots (countLost removed s1)))
  let s3 := raiseIf (!s.trk.gate.isEmpty) .gateSpace s2
  if s.trk.state = .uncertain then dispatcherUnblocks s3 else s3

/-- PURGE (R25). -/
def trkPurge (s : State) : State × Answer :=
  let t := purgeTrack s
  (t,
    { status := .ok
      payload := leBytes 1 s.trk.row.length ++ leBytes 1 s.trk.gate.length
        ++ leBytes 1 (flagCode s.trk.push.isSome) ++ leBytes 2 t.trk.generation })

/-- MAP (R28). -/
def execMap (st : Station) (p : Sent MapArgs) (s : State) : Host.Outcome State Fault Refusal :=
  .next (command st 0x10 (.map st p) p trkMap s)

/-- BILLET (R29). -/
def execBillet (st : Station) (p : Sent Nat) (s : State) : Host.Outcome State Fault Refusal :=
  .next (command st 0x11 (.billet st p) p trkBillet s)

/-- CLASSIFY (R30). -/
def execClassify (st : Station) (p : Sent (BitVec 16)) (s : State) :
    Host.Outcome State Fault Refusal :=
  .next (command st 0x12 (.classify st p) p trkClassify s)

/-- PUSH_REQUEST (R13). -/
def execPushRequest (st : Station) (p : Sent PushArgs) (s : State) :
    Host.Outcome State Fault Refusal :=
  .next (command st 0x18 (.pushRequest st p) p trkPushRequest s)

/-- PUSH_DONE (R16). -/
def execPushDone (st : Station) (p : Sent PushDoneArgs) (s : State) :
    Host.Outcome State Fault Refusal :=
  .next (command st 0x19 (.pushDone st p) p trkPushDone s)

/-- PUSH_CANCEL (R19). -/
def execPushCancel (st : Station) (p : Sent Nat) (s : State) : Host.Outcome State Fault Refusal :=
  .next (command st 0x1A (.pushCancel st p) p trkPushCancel s)

/-- PUSH_TIMER_EXPIRY (R20). -/
def execPushTimerExpiry (s : State) : Host.Outcome State Fault Refusal := .next (pushTimerExpires s)

/-- RESYNC (R23). -/
def execResync (st : Station) (p : Sent Nat) (s : State) : Host.Outcome State Fault Refusal :=
  .next (command st 0x1C (.resync st p) p trkResync s)

/-- PURGE (R25). -/
def execPurge (st : Station) (p : Sent Unit) (s : State) : Host.Outcome State Fault Refusal :=
  .next (command st 0x1D (.purge st p) p (fun _ => trkPurge) s)

end Sys2Proof.Machine
end

