-- ==== Sys2Proof/Machine/LotCommands.lean ====
section
/-! DEFINITION. The meanings of the lot commands (chapter 8): LOT_OPEN, LOT_ADJUST, LOT_ABORT,
LOT_STATUS. -/

namespace Sys2Proof.Machine

/-- The first check of LOT OPEN that fails (R136). -/
def openRefusal (s : State) (recipe : Nat) : Option Status :=
  if recipe < 1 ∨ 15 < recipe then some .range
  else if !recipeValid s recipe then some .recipeInvalid
  else if 2 ≤ s.lot.queue.length then some .lotQueueFull
  else if s.lot.queue.getLast?.any fun l => l.toLoad != 0 then some .busy
  else none

/-- The next lot number advances by one, from 255 to 1 (R136). -/
def nextLotNumber (n : Nat) : Nat := if 255 ≤ n then 1 else n + 1

/-- LOT OPEN (R136). -/
def lotOpen (x : LotOpenArgs) (s : State) : State × Answer :=
  match openRefusal s x.recipe with
  | some e => (s, .bare e)
  | none =>
    let count := clamp 1 9999 x.count
    let l : Lot :=
      { number := s.lot.nextNumber, recipe := x.recipe, toLoad := count, loaded := 0, forged := 0,
        rejected := 0, lost := 0 }
    (s.withLot
        { s.lot with queue := s.lot.queue ++ [l], nextNumber := nextLotNumber s.lot.nextNumber },
      { status := if count = x.count then .ok else .okClamped
        payload := leBytes 1 l.number ++ leBytes 1 l.recipe ++ leBytes 2 l.toLoad })

/-- The steps that LOT ADJUST allows (R137). -/
def allowedSteps : List Int := [-16, -8, -4, -1, 1, 4, 8, 16]

/-- A to-load with a step added, saturated into 0 to 9999 (R137). -/
def steppedLoad (toLoad : Nat) (step : Int) : Nat := (max 0 (min ((toLoad : Int) + step) 9999)).toNat

/-- Replace the newest lot and test for closing (R135). DEDUCED (log 36): the newest lot is the last of the
queue (R134), also when it was the older of two and the newer has closed, so LOT ADJUST can raise its
to-load again (R137). -/
def setNewestLoad (toLoad : Nat) (s : State) : State :=
  match s.lot.queue.getLast? with
  | none => s
  | some l =>
    closeLots
      (s.withLot { s.lot with queue := s.lot.queue.dropLast ++ [{ l with toLoad := toLoad }] })

/-- The reply of LOT ADJUST and LOT ABORT: the lot number and the to-load before (R137, R138). -/
def loadAnswer (l : Lot) : Answer :=
  { status := .ok, payload := leBytes 1 l.number ++ leBytes 2 l.toLoad }

/-- LOT ADJUST (R137). -/
def lotAdjust (step : BitVec 8) (s : State) : State × Answer :=
  if step.toInt ∉ allowedSteps then (s, .bare .badStep)
  else
    match s.lot.queue.getLast? with
    | none => (s, .bare .noLot)
    | some l => (setNewestLoad (steppedLoad l.toLoad step.toInt) s, loadAnswer l)

/-- LOT ABORT (R138). -/
def lotAbort (s : State) : State × Answer :=
  match s.lot.queue.getLast? with
  | none => (s, .bare .noLot)
  | some l => (setNewestLoad 0 s, loadAnswer l)

/-- The counts of a lot record. -/
def lotCountBytes (l : Lot) : List Byte :=
  leBytes 2 l.toLoad ++ leBytes 2 l.loaded ++ leBytes 2 l.forged ++ leBytes 2 l.rejected
    ++ leBytes 2 l.lost

/-- A lot of the queue in LOT STATUS (R142). -/
def queuedLotBytes (s : State) (l : Lot) : List Byte :=
  leBytes 1 l.number ++ leBytes 1 l.recipe ++ leBytes 1 (if l.toLoad = 0 then 1 else 0)
    ++ lotCountBytes l ++ leBytes 1 (lotInTrack s l.number)
    ++ leBytes 1 (flagCode (lotPending s l.number))

/-- The last-closed record in LOT STATUS, all ones when absent (R142, log 18). -/
def lastClosedBytes : Option Lot → List Byte
  | none => onesBytes 12
  | some l => leBytes 1 l.number ++ leBytes 1 l.recipe ++ lotCountBytes l

/-- The spacers still needed before a non-spacer of the newest lot is admitted (R142). -/
def spacersNeeded (s : State) : Nat :=
  (s.lot.queue.getLast?.map fun l => spacersAsked s l - s.lot.spacers).getD 0

/-- LOT STATUS (R142). -/
def lotStatus (s : State) : State × Answer :=
  (s,
    { status := .ok
      payload := (s.lot.queue.map (queuedLotBytes s)).flatten ++ lastClosedBytes s.lot.lastClosed
        ++ leBytes 1 s.lot.nextNumber ++ leBytes 1 s.lot.spacers ++ optBytes 1 s.lot.lastRecipe
        ++ leBytes 1 (spacersNeeded s) })

/-- LOT_OPEN (R136). -/
def execLotOpen (st : Station) (p : Sent LotOpenArgs) (s : State) :
    Host.Outcome State Fault Refusal :=
  .next (command st 0x30 (.lotOpen st p) p lotOpen s)

/-- LOT_ADJUST (R137). -/
def execLotAdjust (st : Station) (p : Sent (BitVec 8)) (s : State) :
    Host.Outcome State Fault Refusal :=
  .next (command st 0x31 (.lotAdjust st p) p lotAdjust s)

/-- LOT_ABORT (R138). -/
def execLotAbort (st : Station) (p : Sent Unit) (s : State) : Host.Outcome State Fault Refusal :=
  .next (command st 0x32 (.lotAbort st p) p (fun _ => lotAbort) s)

/-- LOT_STATUS (R142). -/
def execLotStatus (st : Station) (p : Sent Unit) (s : State) : Host.Outcome State Fault Refusal :=
  .next (command st 0x33 (.lotStatus st p) p (fun _ => lotStatus) s)

end Sys2Proof.Machine
end

