-- ==== Sys2Proof/Machine/Notice.lean ====
section
/-! DEFINITION. The meanings of the notice commands NOTICE_READ, NOTICE_CLEAR and NOTICE_MASK. The
attention output follows from the set and the mask (R155). -/

namespace Sys2Proof.Machine

/-- Replace the items of one station. -/
def setNotices (st : Station) (n : Notices) (s : State) : State := s.withNtc (s.ntc.set st n)

/-- NOTICE READ: the set, its highest-priority kind, the kinds not in the snapshot; then the set
becomes the snapshot (R156). -/
def ntcRead (st : Station) (s : State) : State × Answer :=
  let n := s.ntc.get st
  (setNotices st { n with snapshot := n.pending } s,
    { status := .ok
      payload := kindBytes n.pending ++ optBytes 1 (highestKind n.pending)
        ++ kindBytes (n.pending &&& ~~~n.snapshot) })

/-- NOTICE CLEAR: the named kinds leave the caller's set; bits 12 to 15 are ignored (R157). -/
def ntcClear (st : Station) (kinds : BitVec 16) (s : State) : State × Answer :=
  let n := s.ntc.get st
  let left := n.pending &&& ~~~(kinds.setWidth 12)
  (setNotices st { n with pending := left } s, { status := .ok, payload := kindBytes left })

/-- NOTICE MASK: the kinds replace the caller's mask; bits 12 to 15 are ignored (R158). -/
def ntcMask (st : Station) (kinds : BitVec 16) (s : State) : State × Answer :=
  let n := s.ntc.get st
  let mask := kinds.setWidth 12
  (setNotices st { n with mask := mask } s,
    { status := .ok, payload := kindBytes mask ++ kindBytes n.pending })

/-- NOTICE_READ (R156). -/
def execNoticeRead (st : Station) (p : Sent Unit) (s : State) : Host.Outcome State Fault Refusal :=
  .next (command st 0x01 (.noticeRead st p) p (fun _ => ntcRead st) s)

/-- NOTICE_CLEAR (R157). -/
def execNoticeClear (st : Station) (p : Sent (BitVec 16)) (s : State) :
    Host.Outcome State Fault Refusal :=
  .next (command st 0x02 (.noticeClear st p) p (ntcClear st) s)

/-- NOTICE_MASK (R158). -/
def execNoticeMask (st : Station) (p : Sent (BitVec 16)) (s : State) :
    Host.Outcome State Fault Refusal :=
  .next (command st 0x03 (.noticeMask st p) p (ntcMask st) s)

end Sys2Proof.Machine
end

