-- ==== Sys2Proof/Machine/Params.lean ====
section
/-! DEFINITION. The meanings of the parameter commands EXAMINE, DEPOSIT and LOAD_RECIPE (chapter 7),
with the zone states that a deposit changes (R87). -/

namespace Sys2Proof.Machine

/-- The parameter pointer of a station's link unit. -/
def pointer (s : State) (st : Station) : FieldAddress := (s.links.get st).pointer

/-- Move the pointer of a station. -/
def setPointer (st : Station) (a : FieldAddress) (s : State) : State :=
  setLink st { s.links.get st with pointer := a } s

/-- VALIDITY and, for EXAMINE, IN_USE of a recipe field's recipe; nothing for another field. -/
def validityBytes (s : State) (a : FieldAddress) : List Byte :=
  if a.table = 3 then leBytes 1 (recipeValidity s a.record) else []

/-- IN_USE of a recipe field's recipe. -/
def inUseBytes (s : State) (a : FieldAddress) : List Byte :=
  if a.table = 3 then leBytes 1 (firstOfTwo (recipeInUse s a.record)) else []

/-- The validity of a last sample: 0 none, 1 VALID, 2 VOID (R128). -/
def sampleValidity : Option Sample → Nat
  | none => 0
  | some x => if x.valid then 1 else 2

/-- The validity byte of a last-sample field. -/
def sampleBytes (s : State) (a : FieldAddress) : List Byte :=
  if a.table = 2 ∧ a.field = 2 then
    leBytes 1 (sampleValidity (pyroInput s (recordPyro a.record)).lastSample)
  else []

/-- The reply of EXAMINE (R128). -/
def examineBytes (s : State) (a : FieldAddress) : List Byte :=
  a.bytes ++ leBytes (fieldBytes a) ((readField s a).getD 0) ++ sampleBytes s a
    ++ leBytes 1 (flagCode (writtenMark s a)) ++ leBytes 1 (fieldKind a)
    ++ validityBytes s a ++ inUseBytes s a

/-- EXAMINE (R128): the pointer moves to the target. -/
def pstExamine (st : Station) (form : AddressForm) (s : State) : State × Answer :=
  match resolve (pointer s st) form with
  | none => (s, .bare .range)
  | some a => (setPointer st a s, { status := .ok, payload := examineBytes s a })

/-! ### Storing (R130, R87) -/

/-- The zone record after an enable is stored (R87). -/
def ZoneRecord.storeEnable (z : ZoneRecord) (on : Bool) : ZoneRecord :=
  if on then
    { z with
      enable := true
      missCount := 0
      state :=
        match z.state with
        | .disabled => if z.rating.isSome then .active else .disabled
        | .active => .active
        | .fault => .active }
  else { z with enable := false, state := .disabled }

/-- The zone record after a rating is stored (R87). -/
def ZoneRecord.storeRating (z : ZoneRecord) (v : Nat) : ZoneRecord :=
  if z.state = .disabled ∧ z.enable = true then
    { z with rating := some v, state := .active, missCount := 0 }
  else { z with rating := some v }

/-- A zone record with a writable field stored. -/
def ZoneRecord.storeField (z : ZoneRecord) (field v : Nat) : ZoneRecord :=
  match field with
  | 0 => { z with length := v }
  | 1 => z.storeRating v
  | _ => z.storeEnable (decide (v ≠ 0))

/-- When R has become equal to or less than X_A, X_A becomes R - 1 (R94). -/
def lowerPositionA (s : State) : State :=
  if rowLength s ≤ s.pst.positionA then s.withPst { s.pst with positionA := rowLength s - 1 } else s

/-- Store a fitted value in a writable field, with its effects on the neighbouring blocks (R130). -/
def storeField (a : FieldAddress) (v : Nat) (s : State) : State :=
  match a.table with
  | 0 =>
    if a.field = 0 then s.withPst { s.pst with budget := v }
    else s.withPst { s.pst with period := v }
  | 1 =>
    let z := recordZone a.record
    let s1 := s.withZones (s.zones.set z ((s.zones.get z).storeField a.field v))
    if a.field = 0 then lowerPositionA s1 else s1
  | 2 =>
    if a.field = 0 then s.withPst { s.pst with positionA := v }
    else if a.record = 0 then s.withPst { s.pst with trustA := v }
    else s.withPst { s.pst with trustB := v }
  | _ =>
    let r := s.pst.recipes.getD (a.record - 1) .reset
    storeRecipe a.record
      { fields := setRecipeField r.fields a.field v, written := r.written ||| (1#23 <<< a.field) } s

/-- Whether the track holds anything (R129, check 4). -/
def trackEmpty (s : State) : Bool :=
  s.trk.row.isEmpty && s.trk.gate.isEmpty && s.trk.push.isNone

/-- Checks 2 to 5 of R129 for a target and the value fitted to it; none when all pass. -/
def depositRefusal (s : State) (a : FieldAddress) (fitted : Nat) : Option Status :=
  if readOnlyField a then some .readOnly
  else if a.table = 3 ∧ !recipeLive a.field ∧ recipeInUse s a.record then some .inUse
  else if a.table = 1 ∧ a.field = 0 ∧ !trackEmpty s then some .inUse
  else if a.table = 3 ∧ recipeInUse s a.record ∧
      !relationsHold (setRecipeField (recipeFields s a.record) a.field fitted) then
    some .inconsistent
  else none

/-- DEPOSIT (R129 to R131). -/
def pstDeposit (st : Station) (x : DepositArgs) (s : State) : State × Answer :=
  match resolve (pointer s st) x.address with
  | none => (s, .bare .range)
  | some a =>
    let fitted := fitField s a x.value
    match depositRefusal s a fitted with
    | some refusal => (s, { status := refusal, payload := a.bytes ++ presentBytes s a })
    | none =>
      let t := setPointer st a (storeField a fitted s)
      (t,
        { status := if fitted = x.value then .ok else .okClamped
          payload := a.bytes ++ leBytes (fieldBytes a) fitted ++ validityBytes t a })

/-! ### LOAD RECIPE (R132) -/

/-- Every field fitted to its range. -/
def fitFields (f : RecipeFields) : RecipeFields :=
  recipeFieldNumbers.foldl (fun g n => setRecipeField g n (fitRecipeField n (recipeField f n))) f

/-- The fields that were fitted, field n in bit n. -/
def fittedSet (f : RecipeFields) : Nat :=
  (recipeFieldNumbers.map fun n =>
    if fitRecipeField n (recipeField f n) = recipeField f n then 0 else 2 ^ n).sum

/-- LOAD RECIPE (R132): a recipe is written whole. -/
def pstLoad (x : LoadArgs) (s : State) : State × Answer :=
  if x.slot = 0 then (s, .bare .readOnly)
  else if 15 < x.slot then (s, .bare .range)
  else if recipeInUse s x.slot then (s, .bare .inUse)
  else
    let r : Recipe := { fields := fitFields x.fields, written := BitVec.allOnes 23 }
    (storeRecipe x.slot r s,
      { status := if fittedSet x.fields = 0 then .ok else .okClamped
        payload := leBytes 1 x.slot ++ leBytes 1 r.validity ++ leBytes 3 (fittedSet x.fields) })

/-- EXAMINE (R128). -/
def execExamine (st : Station) (p : Sent AddressForm) (s : State) :
    Host.Outcome State Fault Refusal :=
  .next (command st 0x08 (.examine st p) p (pstExamine st) s)

/-- DEPOSIT (R129). -/
def execDeposit (st : Station) (p : Sent DepositArgs) (s : State) :
    Host.Outcome State Fault Refusal :=
  .next (command st 0x09 (.deposit st p) p (pstDeposit st) s)

/-- LOAD_RECIPE (R132). -/
def execLoadRecipe (st : Station) (p : Sent LoadArgs) (s : State) :
    Host.Outcome State Fault Refusal :=
  .next (command st 0x0A (.loadRecipe st p) p pstLoad s)

end Sys2Proof.Machine
end

