-- ==== Sys2Proof/Machine/Dispatch.lean ====
section
/-! DEFINITION. The dispatch of the commands and events to their meanings, one arm for each. -/

namespace Sys2Proof.Machine

def exec (i : Instr) (s : State) : Host.Outcome State Fault Refusal :=
  match i with
  | .powerOnReset straps => Sys2Proof.Machine.execPowerOnReset straps s
  | .linkBreak st => Sys2Proof.Machine.execLinkBreak st s
  | .pressLinkReset => Sys2Proof.Machine.execPressLinkReset s
  | .frameReceived st bytes => Sys2Proof.Machine.execFrameReceived st bytes s
  | .frameGapTimeout st => Sys2Proof.Machine.execFrameGapTimeout st s
  | .unknownCommand st cmd => Sys2Proof.Machine.execUnknownCommand st cmd s
  | .replyStart => Sys2Proof.Machine.execReplyStart s
  | .replySent st => Sys2Proof.Machine.execReplySent st s
  | .noticeRead st p => Sys2Proof.Machine.execNoticeRead st p s
  | .noticeClear st p => Sys2Proof.Machine.execNoticeClear st p s
  | .noticeMask st p => Sys2Proof.Machine.execNoticeMask st p s
  | .examine st p => Sys2Proof.Machine.execExamine st p s
  | .deposit st p => Sys2Proof.Machine.execDeposit st p s
  | .loadRecipe st p => Sys2Proof.Machine.execLoadRecipe st p s
  | .map st p => Sys2Proof.Machine.execMap st p s
  | .billet st p => Sys2Proof.Machine.execBillet st p s
  | .classify st p => Sys2Proof.Machine.execClassify st p s
  | .pushRequest st p => Sys2Proof.Machine.execPushRequest st p s
  | .pushDone st p => Sys2Proof.Machine.execPushDone st p s
  | .pushCancel st p => Sys2Proof.Machine.execPushCancel st p s
  | .pushTimerExpiry => Sys2Proof.Machine.execPushTimerExpiry s
  | .resync st p => Sys2Proof.Machine.execResync st p s
  | .purge st p => Sys2Proof.Machine.execPurge st p s
  | .reserve st p => Sys2Proof.Machine.execReserve st p s
  | .take st p => Sys2Proof.Machine.execTake st p s
  | .discard st p => Sys2Proof.Machine.execDiscard st p s
  | .cadence st p => Sys2Proof.Machine.execCadence st p s
  | .run st p => Sys2Proof.Machine.execRun st p s
  | .stop st p => Sys2Proof.Machine.execStop st p s
  | .zoneRestore st p => Sys2Proof.Machine.execZoneRestore st p s
  | .dispatchStatus st p => Sys2Proof.Machine.execDispatchStatus st p s
  | .lotOpen st p => Sys2Proof.Machine.execLotOpen st p s
  | .lotAdjust st p => Sys2Proof.Machine.execLotAdjust st p s
  | .lotAbort st p => Sys2Proof.Machine.execLotAbort st p s
  | .lotStatus st p => Sys2Proof.Machine.execLotStatus st p s
  | .permitLost => Sys2Proof.Machine.execPermitLost s
  | .permitPresent => Sys2Proof.Machine.execPermitPresent s
  | .dispatchTimerExpiry => Sys2Proof.Machine.execDispatchTimerExpiry s
  | .inverterReply r => Sys2Proof.Machine.execInverterReply r s
  | .replyWindowClose => Sys2Proof.Machine.execReplyWindowClose s
  | .roundRecord r => Sys2Proof.Machine.execRoundRecord r s
  | .pyrometerSample src bytes => Sys2Proof.Machine.execPyrometerSample src bytes s
  | .pyroByteTimeout src => Sys2Proof.Machine.execPyroByteTimeout src s
  | .measurementCorrection c => Sys2Proof.Machine.execMeasurementCorrection c s
  | .settleTimerExpiry => Sys2Proof.Machine.execSettleTimerExpiry s
  | .waitTimerExpiry => Sys2Proof.Machine.execWaitTimerExpiry s
  | .lapseTimerExpiry => Sys2Proof.Machine.execLapseTimerExpiry s
  | .frameStart st => Sys2Proof.Machine.execFrameStart st s
  | .parityError st => Sys2Proof.Machine.execParityError st s
  | .breakEnd st => Sys2Proof.Machine.execBreakEnd st s
  | .sampleFrameStart src => Sys2Proof.Machine.execSampleFrameStart src s
  | .droppedFrame src => Sys2Proof.Machine.execDroppedFrame src s

end Sys2Proof.Machine
end

