-- ==== Sys2Proof/Machine/Idle.lean ====
section
/-! DEFINITION. What the part does by itself when no command or event is queued (DESIGN CHOICE, log 2):
work handed on inside the part, then a timer that is due, then the millisecond tick. -/

namespace Sys2Proof.Machine

/-- One millisecond passes: the time base rises by one, and the seconds count each time it reaches a
multiple of 1000 (R159). -/
def tick (s : State) : State :=
  let ms := (s.ms + 1) % 2 ^ 48
  s.withClock ms (if ms % 1000 = 0 then (s.secs + 1) % 2 ^ 32 else s.secs)

/-- The command under execution on a link (R150). -/
def underExecution (s : State) (st : Station) : Option Instr :=
  (s.links.get st).executing.map fun e => decodeRequest st e.frame.cmd e.frame.payload

/-- A reply of SLU-S that may begin now (R144). -/
def replyStartDue (s : State) : Bool :=
  match s.links.supervisor.transmitter with
  | .ready _ => !s.links.supervisor.isReceiving
  | .sending _ => false
  | .idle => false

/-- Work handed on inside the part and not yet done: the telling of a link reset (R120), a command
under execution (R150), a ready reply (R144), a handed round record (R85), a handed correction
(R95). -/
def handedWork (s : State) : Option Instr :=
  if resetDue s then some .pressLinkReset
  else
    (underExecution s .press).or <| (underExecution s .loader).or <|
      (underExecution s .supervisor).or <|
        if replyStartDue s then some .replyStart
        else (s.est.rounds.head?.map Instr.roundRecord).or
          (s.est.corrections.head?.map Instr.measurementCorrection)

/-- A timer that is due (R20, R58, R99, R100, R113, R159). -/
def dueTimer (s : State) : Option Instr :=
  if s.dsp.timerExpiry ≤ s.ms then some .dispatchTimerExpiry
  else if due s s.trk.timer then some .pushTimerExpiry
  else if due s s.evu.settle then some .settleTimerExpiry
  else if due s s.evu.wait then some .waitTimerExpiry
  else if due s (s.phu.map (·.lapse)) then some .lapseTimerExpiry
  else none

/-- The event that the part brings about by itself, if any. -/
def internalEvent (s : State) : Option Instr := (handedWork s).or (dueTimer s)

end Sys2Proof.Machine
end

