-- ==== Sys2Proof/Machine/Step.lean ====
section
/-! DEFINITION. One step: the command or event at the front of the queue, or what the part does by
itself on an empty queue. -/

namespace Sys2Proof.Machine

/-- The step on an empty queue (log 2): the event that the part brings about by itself, else one
millisecond passes. -/
def idleStep (s : State) : Host.Outcome State Fault Refusal :=
  match internalEvent s with
  | some c => exec c s
  | none => .next (tick s)

/-- The step: the front of the queue is executed on the state with the rest of the queue. -/
def step (s : State) : Host.Outcome State Fault Refusal :=
  match s.pending with
  | [] => idleStep s
  | c :: rest => exec c (s.withPending rest)

/-- The command that a word spells is put at the front of the queue; no word spells one (log 32). -/
def State.withFetchWord (s : State) (nbits w : Nat) : State :=
  match decodeTableWord nbits w with
  | some c => s.withPending (c :: s.pending)
  | none => s

end Sys2Proof.Machine
end

