-- ==== Sys2Proof/WellFormed.lean ====
section
/-! DEFINITION. Which commands and events can occur at all: every number fits the bytes that carry it,
a wrong length is none of the table's, and an unknown command is in no line of the table. -/

namespace Sys2Proof

/-- `v` fits `n` bytes. -/
def fits (n v : Nat) : Bool := decide (v < 256 ^ n)

/-- The items are well formed, or LEN is one that a frame can have (R145) and the table does not give
the code (R150). -/
def Sent.wf {α : Type} (code : Nat) (ok : α → Bool) : Sent α → Bool
  | .items a => ok a
  | .wrongLength len => decide (2 ≤ len) && decide (len ≤ 66) && decide (len ∉ commandLens code)

/-- The address bytes are bytes. -/
def AddressForm.wf (a : AddressForm) : Bool :=
  fits 1 a.form && fits 1 a.table && fits 1 a.record && fits 1 a.field

/-- The fields fit the widths of R132. -/
def RecipeFields.wf (f : RecipeFields) : Bool :=
  fits 4 f.cap && fits 1 f.surf && fits 1 f.skin && fits 2 f.cond && fits 1 f.loss && fits 2 f.lnom
    && f.tz.toList.all (fits 2) && fits 2 f.tsLo && fits 2 f.tsHi && fits 2 f.tcMin && fits 2 f.tsMax
    && fits 2 f.holdT && fits 1 f.holdH && fits 2 f.maxDwell && fits 1 f.spacers
    && fits 1 f.acceptMeasured

/-- An entry's energy is 0 to 16,777,215 J (R32). -/
def Entry.wf : Entry → Bool
  | .energy j => fits 3 j
  | .void => true

/-- A reply frame's fields fit their bytes (R77). -/
def InverterFrame.wf (r : InverterFrame) : Bool :=
  fits 1 r.start && fits 1 r.channel && fits 1 r.status && fits 3 r.energy && fits 2 r.meanPower
    && fits 1 r.check

/-- A correction's tag fits two bytes and is not 0, and its sample is VOID or 3000 to 14000 (R47). -/
def Correction.wf (c : Correction) : Bool :=
  fits 2 c.tag && decide (c.tag ≠ 0) &&
    (match c.sample with
     | some m => decide (3000 ≤ m) && decide (m ≤ 14000)
     | none => true)

/-- Whether a command or event is one that can occur. -/
def Instr.wf : Instr → Bool
  | .powerOnReset _ => true
  | .linkBreak _ => true
  | .pressLinkReset => true
  | .frameReceived _ bytes => !bytes.isEmpty
  | .frameGapTimeout _ => true
  | .unknownCommand _ cmd => (commandRow cmd.toNat).isNone
  | .replyStart => true
  | .replySent _ => true
  | .noticeRead _ p => p.wf 0x01 fun _ => true
  | .noticeClear _ p => p.wf 0x02 fun _ => true
  | .noticeMask _ p => p.wf 0x03 fun _ => true
  | .examine _ p => p.wf 0x08 AddressForm.wf
  | .deposit _ p => p.wf 0x09 fun a => a.address.wf && fits 4 a.value
  | .loadRecipe _ p => p.wf 0x0A fun a => fits 1 a.slot && a.fields.wf
  | .map _ p => p.wf 0x10 fun a => fits 1 a.first && fits 1 a.count
  | .billet _ p => p.wf 0x11 (fits 2)
  | .classify _ p => p.wf 0x12 fun _ => true
  | .pushRequest _ p => p.wf 0x18 fun a =>
      fits 2 a.tag && fits 1 a.recipe && fits 2 a.length && (a.entryTemp.map (fits 2)).getD true
  | .pushDone _ p => p.wf 0x19 fun a => fits 2 a.tag && fits 2 a.stroke
  | .pushCancel _ p => p.wf 0x1A (fits 2)
  | .pushTimerExpiry => true
  | .resync _ p => p.wf 0x1C (fits 1)
  | .purge _ p => p.wf 0x1D fun _ => true
  | .reserve _ p => p.wf 0x20 fun _ => true
  | .take _ p => p.wf 0x21 (fits 2)
  | .discard _ p => p.wf 0x22 (fits 2)
  | .cadence _ p => p.wf 0x23 (fits 2)
  | .run _ p => p.wf 0x28 fun _ => true
  | .stop _ p => p.wf 0x29 fun _ => true
  | .zoneRestore _ p => p.wf 0x2A (fits 1)
  | .dispatchStatus _ p => p.wf 0x2B fun _ => true
  | .lotOpen _ p => p.wf 0x30 fun a => fits 1 a.recipe && fits 2 a.count
  | .lotAdjust _ p => p.wf 0x31 fun _ => true
  | .lotAbort _ p => p.wf 0x32 fun _ => true
  | .lotStatus _ p => p.wf 0x33 fun _ => true
  | .permitLost => true
  | .permitPresent => true
  | .dispatchTimerExpiry => true
  | .inverterReply r => r.wf
  | .replyWindowClose => true
  | .roundRecord r => r.toList.all Entry.wf
  | .pyrometerSample _ bytes => !bytes.isEmpty
  | .pyroByteTimeout _ => true
  | .measurementCorrection c => c.wf
  | .settleTimerExpiry => true
  | .waitTimerExpiry => true
  | .lapseTimerExpiry => true
  | .frameStart _ => true
  | .parityError _ => true
  | .breakEnd _ => true
  | .sampleFrameStart _ => true
  | .droppedFrame _ => true

end Sys2Proof
end

