-- ==== Sys2Proof/Safety.lean ====
section
/-! DEFINITION. What a safe state is, in the terms that the statements use: the answers of commands, and
the relations that the rules keep among the items of the state. -/

namespace Sys2Proof

/-- The station of a station command; none for an event. -/
def Instr.station : Instr → Option Station
  | .powerOnReset _ => none
  | .linkBreak _ => none
  | .pressLinkReset => none
  | .frameReceived _ _ => none
  | .frameGapTimeout _ => none
  | .unknownCommand st _ => some st
  | .replyStart => none
  | .replySent _ => none
  | .noticeRead st _ => some st
  | .noticeClear st _ => some st
  | .noticeMask st _ => some st
  | .examine st _ => some st
  | .deposit st _ => some st
  | .loadRecipe st _ => some st
  | .map st _ => some st
  | .billet st _ => some st
  | .classify st _ => some st
  | .pushRequest st _ => some st
  | .pushDone st _ => some st
  | .pushCancel st _ => some st
  | .pushTimerExpiry => none
  | .resync st _ => some st
  | .purge st _ => some st
  | .reserve st _ => some st
  | .take st _ => some st
  | .discard st _ => some st
  | .cadence st _ => some st
  | .run st _ => some st
  | .stop st _ => some st
  | .zoneRestore st _ => some st
  | .dispatchStatus st _ => some st
  | .lotOpen st _ => some st
  | .lotAdjust st _ => some st
  | .lotAbort st _ => some st
  | .lotStatus st _ => some st
  | .permitLost => none
  | .permitPresent => none
  | .dispatchTimerExpiry => none
  | .inverterReply _ => none
  | .replyWindowClose => none
  | .roundRecord _ => none
  | .pyrometerSample _ _ => none
  | .pyroByteTimeout _ => none
  | .measurementCorrection _ => none
  | .settleTimerExpiry => none
  | .waitTimerExpiry => none
  | .lapseTimerExpiry => none
  | .frameStart _ => none
  | .parityError _ => none
  | .breakEnd _ => none
  | .sampleFrameStart _ => none
  | .droppedFrame _ => none

end Sys2Proof

namespace Sys2Proof.Machine

/-! ### Commands and their answers -/

/-- A status that reports a refusal: every code above 2 (R151). -/
def Status.refusal (x : Status) : Bool := decide (2 < x.code)

/-- What a command changes: `exec` answers a next state in which the blocks are as in `u`, the link unit
of the station has been given the answer `a`, its pointer is that of `u`, and the other two link units
are as in `u`. -/
def Answers (i : Instr) (st : Station) (s u : State) (a : Answer) : Prop :=
  ∃ t, exec i s = .next t ∧ t.withLinks u.links = u ∧ (t.links.get st).answer = some a ∧
    (t.links.get st).pointer = (u.links.get st).pointer ∧
    ∀ other, other ≠ st → t.links.get other = u.links.get other

/-- No link reset of the press link waits to be told before a command of this station (R120). -/
def NoResetDue (st : Station) (s : State) : Prop := st = .press → resetDue s = false

/-- The notice items after some kinds have been raised: each kind is in the sets of all three stations,
and nothing else has changed (R153). -/
def Raises (kinds : KindSet) (n m : PerStation Notices) : Prop :=
  ∀ st, (m.get st).pending = (n.get st).pending ||| kinds ∧ (m.get st).mask = (n.get st).mask ∧
    (m.get st).snapshot = (n.get st).snapshot

/-- The set of one kind when a condition holds, else the empty set. -/
def kindIf (c : Prop) [Decidable c] (k : Notice) : KindSet := if c then k.bit else 0

/-- Only the link unit of one station may differ. -/
def OnlyLink (st : Station) (s t : State) : Prop :=
  t.withLinks s.links = s ∧ ∀ other, other ≠ st → t.links.get other = s.links.get other

/-- LINK_ERROR has entered the set of one station, and no other notice item has changed (R153). -/
def LinkErrorOnly (st : Station) (n m : PerStation Notices) : Prop :=
  m.get st = (n.get st).add .linkError ∧ ∀ other, other ≠ st → m.get other = n.get other

/-! ### The track (chapter 1) -/

/-- The billet records of the row and the gate. -/
def billets (s : State) : List Billet := s.trk.gate.map (·.billet) ++ s.trk.row

/-- The tags that the track holds (R7). -/
def trackTags (s : State) : List Nat :=
  (billets s).map (·.tag) ++ (s.trk.push.map (·.tag)).toList

/-- The tags of the track are distinct, and none is 0 (R7, R13). -/
abbrev TagsDistinct (s : State) : Prop := (trackTags s).Nodup ∧ 0 ∉ trackTags s

/-- The pending push is there exactly outside IDLE, and the push timer runs exactly in PUSHING (R8,
R20, R21). -/
abbrev PushMatchesState (s : State) : Prop :=
  (s.trk.state = .idle ↔ s.trk.push = none) ∧ (s.trk.timer.isSome ↔ s.trk.state = .pushing)

/-- The values of every record and of the pending push lie in their ranges (R2, R14, R41). -/
abbrev RecordsInRange (s : State) : Prop :=
  (∀ b ∈ billets s,
    b.ts ≤ 16000 ∧ b.tc ≤ 16000 ∧ b.entryTemp ≤ 6000 ∧ b.energy ≤ 4294967295 ∧ 60 ≤ b.length ∧
      b.length ≤ 600 ∧ b.recipe ≤ 15) ∧
  ∀ p ∈ s.trk.push, p.entryTemp ≤ 6000 ∧ 60 ≤ p.length ∧ p.length ≤ 600 ∧ p.recipe ≤ 15

/-- Records, front first, stand end to end up to the entry, and every trailing face is below R (R4). -/
def Contiguous (r : Nat) : List Billet → Prop
  | [] => True
  | [b] => b.trailing = 0 ∧ b.trailing < r
  | b :: c :: rest => b.trailing = c.leading ∧ b.trailing < r ∧ Contiguous r (c :: rest)

/-- The row is contiguous, a gate record keeps a trailing value below R, and every zone length lies in
200 to 800 mm (R4, R5, R11). -/
def PositionsKept (s : State) : Prop :=
  Contiguous (rowLength s) s.trk.row ∧ (∀ g ∈ s.trk.gate, g.billet.trailing < rowLength s) ∧
    ∀ z, 200 ≤ (s.zones.get z).length ∧ (s.zones.get z).length ≤ 800

/-- The row holds at most 40 records and the gate at most 2, and a pending push fits (R4, R5, R15). -/
abbrev CapacityKept (s : State) : Prop :=
  s.trk.row.length ≤ 40 ∧ s.trk.gate.length ≤ 2 ∧
  ∀ p ∈ s.trk.push,
    s.trk.row.length + 1 ≤ 40 + movedBy s p.length ∧ s.trk.gate.length + movedBy s p.length ≤ 2

/-! ### The gate front and the reservation (chapters 5 and 6) -/

/-- The verdict of the gate front, if there is a front. -/
def frontVerdict (s : State) : Option Verdict := (gateFront s).map (·.verdict)

/-- The front phase, its timers, the exit measurement, the verdicts of the gate and the reservation agree:
the timers run from the gate-front time, and the exit measurement is VOID until a sample has decided the
front (R97 to R101, R110). -/
abbrev GateTimed (s : State) : Prop :=
  (s.evu.phase = .noFront ↔ s.trk.gate = []) ∧
  (s.evu.phase = .settling ∨ s.evu.phase = .awaiting ↔ frontVerdict s = some .pending) ∧
  (s.evu.settle.isSome ↔ s.evu.phase = .settling) ∧
  (s.evu.wait.isSome ↔ s.evu.phase = .settling ∨ s.evu.phase = .awaiting) ∧
  (∀ g ∈ s.trk.gate.head?, g.frontTime.isSome) ∧
  (∀ e ∈ s.evu.settle, (gateFront s).bind (fun g => g.frontTime.map (· + 300)) = some e) ∧
  (∀ e ∈ s.evu.wait, (gateFront s).bind (fun g => g.frontTime.map (· + 1000)) = some e) ∧
  (s.evu.phase ≠ .decided → s.evu.exitM = none) ∧
  (∀ g ∈ s.trk.gate.tail, g.verdict = .pending ∧ g.frontTime = none) ∧
  ∀ r ∈ s.phu, ∃ g, gateFront s = some g ∧ g.billet.tag = r.tag ∧ g.verdict = .ready

/-! ### The dispatcher and the zones (chapters 3 and 4) -/

/-- The dispatcher heats only with PERMIT and a certain track, holds zeros outside RUN, and keeps its
cadence values in range (R52, R53, R57, R61, R64). -/
abbrev DispatcherSafe (s : State) : Prop :=
  (s.dsp.state = .run → s.permit = true ∧ s.trk.state ≠ .uncertain) ∧
  (s.dsp.state = .blocked → s.permit = true ∧ s.trk.state = .uncertain) ∧
  (s.dsp.state ≠ .run →
    s.dsp.grants = .const 0 ∧ s.dsp.setpoints = .const 0 ∧ s.dsp.totalDemand = 0) ∧
  (s.dsp.inferred = true → s.dsp.cadence ≠ .hold) ∧
  (∀ c, s.dsp.cadence = .running c → 2000 ≤ c ∧ c ≤ 120000) ∧
  ∀ v ∈ s.dsp.pendingCadence, v = 0 ∨ (20 ≤ v ∧ v ≤ 1200)

/-- A set's grants and setpoints lie in their ranges (R74). -/
abbrev DispatchSet.inRange (d : DispatchSet) : Prop :=
  ∀ z, d.grants.get z ≤ 800000 ∧ d.setpoints.get z ≤ 8000

/-- A zone is DISABLED exactly while it is not enabled with a written rating; an ACTIVE zone has fewer
than 3 misses; ratings, misses, grants and setpoints lie in their ranges (R74, R84, R86, R87). -/
abbrev ZonesConsistent (s : State) : Prop :=
  (∀ z, ((s.zones.get z).state = .disabled ↔
      ¬((s.zones.get z).enable = true ∧ (s.zones.get z).rating.isSome)) ∧
    ((s.zones.get z).state = .active → (s.zones.get z).missCount < 3) ∧
    (s.zones.get z).missCount ≤ 3 ∧ (s.zones.get z).lastGrant ≤ 800000 ∧
    ∀ r ∈ (s.zones.get z).rating, 10000 ≤ r ∧ r ≤ 800000) ∧
  DispatchSet.inRange { setpoints := s.dsp.setpoints, grants := s.dsp.grants } ∧
  (∀ d ∈ s.ilc.waiting, d.inRange) ∧
  ∀ r ∈ s.ilc.round, r.carried.inRange ∧ r.poll.setpoint ≤ 8000

/-! ### The parameter space (chapter 7) -/

/-- A written field lies in its range, and an unwritten one reads 0 (R124, R130). -/
abbrev Recipe.fieldsInRange (r : Recipe) : Prop :=
  ∀ n < 23,
    if r.written.getLsbD n = true then
      (recipeRange n).1 ≤ recipeField r.fields n ∧ recipeField r.fields n ≤ (recipeRange n).2
    else recipeField r.fields n = 0

/-- Every recipe in use is VALID and its number is at most 15, the recipes' fields lie in their ranges,
and every pointer names a field (R124 to R127). -/
abbrev RecipesGuarded (s : State) : Prop :=
  (∀ n, recipeInUse s n = true → n ≤ 15 ∧ recipeValidity s n = 0) ∧
  s.pst.recipes.length = 15 ∧ (∀ r ∈ s.pst.recipes, r.fieldsInRange) ∧
  ∀ st, (s.links.get st).pointer.named = true

/-! ### Lots (chapter 8) -/

/-- At most two lots, the older RUN_OUT; the counts that are limited lie in their ranges (R134). -/
abbrev LotsInShape (s : State) : Prop :=
  s.lot.queue.length ≤ 2 ∧ (∀ l ∈ s.lot.queue.dropLast, l.toLoad = 0) ∧
  (∀ l ∈ s.lot.queue, 1 ≤ l.number ∧ l.number ≤ 255 ∧ 1 ≤ l.recipe ∧ l.recipe ≤ 15 ∧
    l.toLoad ≤ 9999) ∧
  1 ≤ s.lot.nextNumber ∧ s.lot.nextNumber ≤ 255 ∧ s.lot.spacers ≤ 255

/-- The numbers of the lots in the queue. -/
def lotNumbers (s : State) : List Nat := s.lot.queue.map (·.number)

/-- The lot account: distinct lot numbers, every billet that is not a spacer in a lot of the queue, no
spacer in one, and each lot's loaded count equal to its records in the track plus forged, rejected and
lost; the last closed lot has none in the track (R134, R135). -/
abbrev LotLaw (s : State) : Prop :=
  (lotNumbers s).Nodup ∧ 0 ∉ lotNumbers s ∧
  (∀ b ∈ billets s, if b.recipe = 0 then b.lot = 0 else b.lot ∈ lotNumbers s) ∧
  (∀ p ∈ s.trk.push, if p.recipe = 0 then p.lot = 0 else p.lot ∈ lotNumbers s) ∧
  (∀ l ∈ s.lot.queue,
    l.loaded = lotInTrack s l.number + l.forged + l.rejected + l.lost) ∧
  ∀ l ∈ s.lot.lastClosed, l.toLoad = 0 ∧ l.loaded = l.forged + l.rejected + l.lost

/-! ### The station links (chapter 9) -/

/-- The bytes of a frame in reception: START first, a legal LEN, and not yet all of the frame (R147). -/
abbrev partialFrame (bytes : List Byte) : Prop :=
  bytes.head? = some 0xA5 ∧
  (3 ≤ bytes.length →
    2 ≤ (byteAt bytes 2).toNat ∧ (byteAt bytes 2).toNat ≤ 66 ∧
      bytes.length < (byteAt bytes 2).toNat + 4)

/-- The items of one link unit agree (R143, R147 to R150, R152). -/
abbrev Link.consistent (l : Link) : Prop :=
  l.fifo.length ≤ 4 ∧ (l.pace = true ↔ l.fifo.length < 4) ∧
  (l.executing.isSome → l.transmitter = .idle) ∧
  (l.executing = none ∧ l.transmitter = .idle ∧ l.resetOwed = false → l.fifo = []) ∧
  (l.isReceiving = true → l.lineBreak = false) ∧
  (l.isReceiving = false → l.overrun = false) ∧
  (l.isReceiving = true ∧ l.overrun = false → l.fifo.length < 4) ∧
  ∀ bytes, l.receiver = .receiving bytes → partialFrame bytes

/-- All three link units agree with themselves; only SLU-S holds a ready reply, and it does not receive
while it drives the pair; only SLU-P owes the telling of a reset (R120, R144). -/
abbrev LinksConsistent (s : State) : Prop :=
  (∀ st, (s.links.get st).consistent) ∧
  (∀ st, st ≠ .supervisor → ∀ f, (s.links.get st).transmitter ≠ .ready f) ∧
  (∀ st, st ≠ .press → (s.links.get st).resetOwed = false) ∧
  (driverEnable s = true → s.links.supervisor.isReceiving = false)

/-! ### The pyrometer inputs (chapter 5) -/

/-- A pyrometer input holds at most three bytes of a frame, and a frame begins with 0xC3 (R92). -/
abbrev InputsConsistent (s : State) : Prop :=
  ∀ src, (pyroInput s src).frame.length ≤ 3 ∧
    ((pyroInput s src).frame = [] ∨ (pyroInput s src).frame.head? = some 0xC3)

/-! ### The tables, told from the rules -/

/-- The records of a table from a first one on, each with its fields 0 to n - 1 in order. -/
def tableFields (table first records n : Nat) : List FieldAddress :=
  ((List.range records).map fun record =>
    (List.range n).map fun field =>
      ({ table := table, record := first + record, field := field } : FieldAddress)).flatten

/-- All fields in the order of R123: the LINE record, ZONE 1 to 8, PYRO A and B, RECIPE 0 to 15. -/
def fieldOrder : List FieldAddress :=
  tableFields 0 0 1 4 ++ tableFields 1 1 8 8 ++ tableFields 2 0 2 3 ++ tableFields 3 0 16 25

/-- The range of a writable field (R123, R124, R130). -/
def fieldRange (s : State) (a : FieldAddress) : Nat × Nat :=
  match a.table, a.field with
  | 0, 0 => (0, 4000000)
  | 0, _ => (20, 200)
  | 1, 0 => (200, 800)
  | 1, 1 => (10000, 800000)
  | 1, _ => (0, 1)
  | 2, 0 => (0, rowLength s - 1)
  | 2, _ => (0, 256)
  | _, n => recipeRange n

/-- What is stored for a value sent to a field (R130). -/
def StoredFor (s : State) (a : FieldAddress) (sent stored : Nat) : Prop :=
  (sent < (fieldRange s a).1 → stored = (fieldRange s a).1) ∧
  ((fieldRange s a).2 < sent → stored = (fieldRange s a).2) ∧
  ((fieldRange s a).1 ≤ sent → sent ≤ (fieldRange s a).2 →
    stored = if a.table = 0 ∧ a.field = 1 then sent / 10 * 10 else sent)

/-- The fields that may change when another field is stored (R87, R94, R125, R130). -/
def followsFrom (a b : FieldAddress) : Prop :=
  (a.table = 1 ∧ a.field = 0 ∧
    (b = { table := 0, record := 0, field := 2 } ∨ (b.table = 2 ∧ b.field = 0))) ∨
  (a.table = 1 ∧ (a.field = 1 ∨ a.field = 2) ∧ b.table = 1 ∧ b.record = a.record ∧
    (b.field = 3 ∨ b.field = 6)) ∨
  (a.table = 3 ∧ b.table = 3 ∧ b.record = a.record ∧ b.field = 23)

/-- Relation k of R125, 1 to 6. -/
abbrev relation (f : RecipeFields) : Nat → Prop
  | 1 => f.tz.z1 ≤ f.tz.z2 ∧ f.tz.z2 ≤ f.tz.z3 ∧ f.tz.z3 ≤ f.tz.z4 ∧ f.tz.z4 ≤ f.tz.z5 ∧
      f.tz.z5 ≤ f.tz.z6 ∧ f.tz.z6 ≤ f.tz.z7 ∧ f.tz.z7 ≤ f.tz.z8
  | 2 => f.tz.z8 ≤ f.tsHi
  | 3 => f.tsLo < f.tsHi
  | 4 => f.tsHi < f.tsMax
  | 5 => f.tcMin ≤ f.tsHi
  | _ => f.holdT ≤ f.tz.z8

/-- LOT admits a push of a recipe with a lot number: a spacer with 0, and another recipe to the newest lot,
which is LOADING, of this recipe, and separated by spacers enough from a different last recipe (R139). -/
def Admitted (s : State) (recipe lot : Nat) : Prop :=
  if recipe = 0 then lot = 0
  else
    ∃ l, s.lot.queue.getLast? = some l ∧ l.number = lot ∧ l.recipe = recipe ∧ 0 < l.toLoad ∧
      l.loaded < 65535 ∧
      ∀ r, s.lot.lastRecipe = some r → r ≠ l.recipe →
        (recipeFields s l.recipe).spacers ≤ s.lot.spacers ∧
          (recipeFields s r).spacers ≤ s.lot.spacers

/-- A record is in class k of R30's table, counted from 0. -/
def InClass (p : Placed) : Nat → Prop
  | 0 => p.gate = none ∧ p.billet.estimate = .tracked ∧ p.billet.marks.overheated = false ∧
      p.billet.marks.overdwell = false ∧ p.billet.marks.guarded = false
  | 1 => p.billet.estimate = .untracked
  | 2 => p.billet.marks.overheated = true
  | 3 => p.billet.marks.overdwell = true
  | 4 => p.billet.marks.guarded = true
  | 5 => p.billet.recipe = 0
  | 6 => ∃ g, p.gate = some g ∧ g.verdict = .pending
  | 7 => ∃ g, p.gate = some g ∧ g.verdict = .ready
  | 8 => ∃ g, p.gate = some g ∧ g.verdict ≠ .pending ∧ g.verdict ≠ .ready
  | _ => False

/-! ### What an event does, told from the rules -/

/-- The gate list, new records appended; a record that comes to the front of an empty gate is timed from
now (R5, R17, R98). -/
def arrivedGate (ms : Nat) (gate : List GateBillet) (moved : List Billet) : List GateBillet :=
  match gate, moved with
  | [], [] => []
  | [], b :: rest =>
    { billet := b, verdict := .pending, frontTime := some ms }
      :: rest.map fun c => { billet := c, verdict := .pending, frontTime := none }
  | g :: gs, _ =>
    (g :: gs) ++ moved.map fun c => { billet := c, verdict := .pending, frontTime := none }

/-- The state of EVU when a new front is timed from now (R98). -/
def timedFront (ms : Nat) : VerdictUnit :=
  { phase := .settling, settle := some (ms + 300), wait := some (ms + 1000), exitM := none }

/-- The state of EVU when the gate is empty (R98). -/
def emptyGate : VerdictUnit := { phase := .noFront, settle := none, wait := none, exitM := none }

/-- The row records that a push of a length leaves in the row, and those that it moves out (R16). -/
def staying (s : State) (len : Nat) : List Billet :=
  s.trk.row.filter fun b => decide (b.trailing + len < rowLength s)

/-- The row records that a push of a length moves to the gate (R16, R17). -/
def leaving (s : State) (len : Nat) : List Billet :=
  s.trk.row.filter fun b => decide (rowLength s ≤ b.trailing + len)

/-- The track, the lots and the gate timing after a pending push has been applied (R3, R16, R17, R98,
R140). -/
def PushApplied (p : PendingPush) (est : EstimateState) (s u : State) : Prop :=
  u.trk =
      { row :=
          (staying s p.length).map (fun b => { b with trailing := b.trailing + p.length }) ++
            [{ tag := p.tag, recipe := p.recipe, lot := p.lot, length := p.length, trailing := 0,
               entryTemp := p.entryTemp, ts := p.entryTemp, tc := p.entryTemp, estimate := est,
               marks := { overheated := false, overdwell := false, guarded := false },
               entryTime := s.secs, energy := 0, measurement := none }]
        gate := arrivedGate s.ms s.trk.gate (leaving s p.length)
        push := none, state := .idle, timer := none
        generation := (s.trk.generation + 1) % 65536 } ∧
  u.evu = (if s.trk.gate = [] ∧ leaving s p.length ≠ [] then timedFront s.ms else s.evu) ∧
  u.lot =
    if p.recipe = 0 then { s.lot with spacers := min 255 (s.lot.spacers + 1) }
    else
      { s.lot with
        queue :=
          s.lot.queue.map fun l =>
            if l.number = p.lot then { l with toLoad := l.toLoad - 1, loaded := l.loaded + 1 } else l
        spacers := 0
        lastRecipe := some p.recipe }

/-- The track, the notices and the dispatcher after the track has entered UNCERTAIN; nothing else
changes (R21, R57). -/
def EntersUncertain (s u : State) : Prop :=
  u.trk =
      { s.trk with
        row := s.trk.row.map fun b => { b with estimate := .untracked }
        state := .uncertain
        timer := none } ∧
  Raises (Notice.trackUncertain.bit ||| kindIf (∃ b ∈ s.trk.row, b.estimate = .tracked) .untracked)
    s.ntc u.ntc ∧
  u.dsp =
    (if s.dsp.state = .run then
      { s.dsp with
        state := .blocked, grants := .const 0, setpoints := .const 0, totalDemand := 0 }
     else s.dsp) ∧
  ((u.withTrk s.trk).withNtc s.ntc).withDsp s.dsp = s

/-- The dispatcher after the track has left UNCERTAIN (R57). -/
def leftUncertain (s : State) : Dispatcher :=
  if s.dsp.state = .blocked ∧ s.permit = true then { s.dsp with state := .run } else s.dsp

/-- Whether a lot is RUN_OUT with none of its billets in the track (R135). -/
abbrev LotEnds (trk : Track) (l : Lot) : Prop :=
  l.toLoad = 0 ∧ (∀ b ∈ trk.row, b.lot ≠ l.number) ∧ (∀ g ∈ trk.gate, g.billet.lot ≠ l.number) ∧
    ∀ p ∈ trk.push, p.lot ≠ l.number

/-- The lots of a queue that end with a track. -/
def endedLots (trk : Track) (queue : List Lot) : List Lot :=
  queue.filter fun l => decide (LotEnds trk l)

/-- LOT after the test for closing: ended lots leave the queue, and the newest of them is the last
closed (R135). -/
def testedLots (trk : Track) (x : Lots) : Lots :=
  { x with
    queue := x.queue.filter fun l => decide (¬LotEnds trk l)
    lastClosed := ((endedLots trk x.queue).getLast?).or x.lastClosed }

/-- The gate after its front has been removed (R26, R98). -/
def advancedGate (ms : Nat) : List GateBillet → List GateBillet
  | [] => []
  | [_] => []
  | _ :: g :: rest => { g with frontTime := some ms } :: rest

/-- The state after an accepted TAKE or DISCARD of the gate front, with what LOT counts (R26, R63, R98,
R114, R116, R121, R141). -/
def HandedOver (count : Lot → Lot) (g : GateBillet) (s u : State) : Prop :=
  u.trk =
      { s.trk with
        gate := advancedGate s.ms s.trk.gate
        generation := (s.trk.generation + 1) % 65536 } ∧
  u.evu = (if s.trk.gate.tail = [] then emptyGate else timedFront s.ms) ∧
  u.phu = none ∧
  u.dsp = { s.dsp with lastHandover := s.ms, inferred := false } ∧
  (∃ queue : List Lot,
    queue =
      (if g.billet.recipe = 0 then s.lot.queue
       else s.lot.queue.map fun l => if l.number = g.billet.lot then count l else l) ∧
    u.lot = testedLots u.trk { s.lot with queue := queue } ∧
    Raises (Notice.gateSpace.bit ||| kindIf (endedLots u.trk queue ≠ []) .lotClosed) s.ntc u.ntc) ∧
  (((((u.withTrk s.trk).withEvu s.evu).withPhu s.phu).withDsp s.dsp).withLot s.lot).withNtc
    s.ntc = s

/-- A reservation is lost when its front leaves READY for another verdict (R106, R118). -/
abbrev LosesReservation (g : GateBillet) (v : Verdict) (s : State) : Prop :=
  g.verdict = .ready ∧ v ≠ .ready ∧ s.phu.map (·.tag) = some g.billet.tag

/-- What EVU and PHU raise when the front comes to hold a verdict by re-evaluation: VERDICT for another
verdict, RES_LOST for a reservation that is lost by it (R106, R118). -/
def verdictKinds (g : GateBillet) (v : Verdict) (s : State) : KindSet :=
  kindIf (v ≠ g.verdict) .verdict ||| kindIf (LosesReservation g v s) .resLost

/-- The structural changes of R10: PUSH DONE within tolerance, RESYNC with a valid decision in UNCERTAIN, an
accepted TAKE or DISCARD, and PURGE. -/
def ChangesStructure (i : Instr) (s : State) : Prop :=
  (∃ p x, i = .pushDone .loader (.items x) ∧ s.trk.state = .pushing ∧ s.trk.push = some p ∧
    x.tag = p.tag ∧ x.stroke ≤ p.length + 8 ∧ p.length ≤ x.stroke + 8) ∨
  (∃ d, i = .resync .supervisor (.items d) ∧ s.trk.state = .uncertain ∧ d ≤ 1) ∨
  (∃ tag, i = .take .press (.items tag) ∧ NoResetDue .press s ∧ tag ≠ 0 ∧
    s.phu.map (·.tag) = some tag ∧ s.trk.gate.head?.map (·.billet.tag) = some tag) ∨
  (∃ tag, i = .discard .press (.items tag) ∧ s.trk.gate.head?.map (·.billet.tag) = some tag) ∨
  i = .purge .supervisor (.items ())

/-! ### All of them -/

/-- Every relation that each step keeps. The lot account, which a step keeps when the next lot number is
not in the queue (log 31), is `LotLaw`. -/
structure Safe (s : State) : Prop where
  push : PushMatchesState s
  tags : TagsDistinct s
  records : RecordsInRange s
  positions : PositionsKept s
  capacity : CapacityKept s
  gate : GateTimed s
  dispatcher : DispatcherSafe s
  zones : ZonesConsistent s
  recipes : RecipesGuarded s
  lots : LotsInShape s
  links : LinksConsistent s
  inputs : InputsConsistent s

end Sys2Proof.Machine
end

