-- ==== Sys2Proof/Certificates/Slice0/Obligations.lean ====
section
/-! DEFINITION. The statements about the part, from the numbered rules of spec/. -/

section

open Sys2Proof Sys2Proof.Machine

/-! ### The step, reset and what stays -/

/-- The step takes the command at the front of the queue and executes it on the state with the rest of
the queue. -/
def Obligations.StepRunsFrontCommand : Prop :=
  ∀ (s : State) (c : Instr) (rest : List Instr), s.pending = c :: rest →
    step s = exec c (s.withPending rest)

/-- The model's choice for an empty queue (log 2): the part's own next event is executed. Without one, a
millisecond passes (R159), and no timer is due and no command is under execution. That the two time bases
wrap at 48 and 32 bits is the model's reading of their widths (log 7). -/
def Obligations.IdleStepTicks : Prop :=
  ∀ s : State, s.pending = [] →
    (∀ c, internalEvent s = some c → step s = exec c s) ∧
    (internalEvent s = none →
      (∃ t, step s = .next t ∧ t.ms = (s.ms + 1) % 2 ^ 48 ∧
        t.secs = (if t.ms % 1000 = 0 then (s.secs + 1) % 2 ^ 32 else s.secs) ∧
        t.withClock s.ms s.secs = s) ∧
      s.ms < s.dsp.timerExpiry ∧ (∀ e ∈ s.trk.timer, s.ms < e) ∧ (∀ e ∈ s.evu.settle, s.ms < e) ∧
      (∀ e ∈ s.evu.wait, s.ms < e) ∧ (∀ r ∈ s.phu, s.ms < r.lapse) ∧
      ∀ st, (s.links.get st).executing = none)

/-- POWER_ON_RESET puts every item at its power-on value, the fields of LINE, ZONE and PYRO and the recipes with
them (R123, R124), the two time bases at 0 (R159), and reads the straps, whose value 0 reads as 1 (R148). That
the level of PERMIT and the senders' queue stay is the model's choice (log 6). The note of the channels that have
replied, none after reset (logs 10 and 37), and EST's two queues, empty after reset (log 8), are the model's own
fields. -/
def Obligations.PowerOnResetValues : Prop :=
  ∀ (straps : BitVec 4) (s : State), ∃ t, exec (.powerOnReset straps) s = .next t ∧
    t.ms = 0 ∧ t.secs = 0 ∧ t.permit = s.permit ∧ t.pending = s.pending ∧
    t.unit = (if straps = 0 then 1 else straps.toNat) ∧
    t.trk = { row := [], gate := [], push := none, state := .idle, timer := none, generation := 0 } ∧
    t.est = { lastRound := none, rounds := [], corrections := [] } ∧
    t.dsp =
      { state := .stopped, timerInterval := 50, timerExpiry := 50, cadence := .hold,
        pendingCadence := none, inferred := false, lastHandover := 0, grants := .const 0,
        setpoints := .const 0, totalDemand := 0 } ∧
    (t.ilc.round = none ∧ t.ilc.waiting = none ∧
      ∀ z, t.ilc.entries.get z = none ∧ t.ilc.ack.get z = false ∧ t.ilc.replied.get z = false) ∧
    (∀ z, t.zones.get z =
      { length := 400, rating := none, enable := false, state := .disabled, lastStatus := none,
        lastMean := 0, missCount := 0, lastGrant := 0 }) ∧
    (t.pst.budget = 0 ∧ t.pst.period = 50 ∧ t.pst.positionA = 1600 ∧ t.pst.trustA = 128 ∧
      t.pst.trustB = 128 ∧ t.pst.recipes.length = 15 ∧
      ∀ r ∈ t.pst.recipes, r.written = 0 ∧ ∀ n, recipeField r.fields n = 0) ∧
    (t.pya = { frame := [], lastSample := none } ∧ t.pyb = { frame := [], lastSample := none }) ∧
    t.evu = { phase := .noFront, settle := none, wait := none, exitM := none } ∧ t.phu = none ∧
    t.lot = { queue := [], lastClosed := none, nextNumber := 1, spacers := 0, lastRecipe := none } ∧
    (∀ st, (t.ntc.get st).pending = 0 ∧ (t.ntc.get st).snapshot = 0) ∧
    t.ntc.press.mask =
      Notice.permitOff.bit ||| Notice.trackUncertain.bit ||| Notice.verdict.bit |||
        Notice.resLost.bit ∧
    t.ntc.loader.mask =
      Notice.permitOff.bit ||| Notice.trackUncertain.bit ||| Notice.gateSpace.bit |||
        Notice.lotClosed.bit ∧
    (∀ k : Notice, t.ntc.supervisor.mask &&& k.bit = k.bit) ∧
    ∀ st, (t.links.get st).receiver = .hunting ∧ (t.links.get st).overrun = false ∧
      (t.links.get st).fifo = [] ∧ (t.links.get st).executing = none ∧
      (t.links.get st).transmitter = .idle ∧ (t.links.get st).pace = true ∧
      (t.links.get st).pointer = { table := 0, record := 0, field := 0 }

/-- The state after reset meets every relation that a step keeps. -/
def Obligations.ResetIsSafe : Prop := Safe State.reset ∧ LotLaw State.reset

/-- But for power-on reset, no command and no event changes the time bases, the strap address or the queue,
and only the two PERMIT rows change the level of PERMIT; a station's mask changes only by its own NOTICE
MASK, its snapshot only by its own NOTICE READ, and a kind leaves its set only by its own NOTICE CLEAR
(R148, R152 to R154, R159). -/
def Obligations.OwnItemsOnly : Prop :=
  ∀ (i : Instr) (s t : State), exec i s = .next t → (∀ straps, i ≠ .powerOnReset straps) →
    t.ms = s.ms ∧ t.secs = s.secs ∧ t.unit = s.unit ∧ t.pending = s.pending ∧
    (i ≠ .permitLost → i ≠ .permitPresent → t.permit = s.permit) ∧
    ∀ st : Station,
      ((∀ p, i ≠ .noticeMask st p) → (t.ntc.get st).mask = (s.ntc.get st).mask) ∧
      ((∀ p, i ≠ .noticeRead st p) → (t.ntc.get st).snapshot = (s.ntc.get st).snapshot) ∧
      ((∀ p, i ≠ .noticeClear st p) →
        (t.ntc.get st).pending &&& (s.ntc.get st).pending = (s.ntc.get st).pending)

/-! ### The station links (chapter 9) -/

/-- BREAK resets the unit of its own link: reception, overrun discard and FIFO are gone, the pace output is
asserted, the pointer is at the budget field, a command under execution is to lose its reply, and a reply
being sent goes on; that a reply which SLU-S holds back also stays is the model's reading (log 11), and that
the pointer moves at the break, before a command under execution completes, is the model's choice (log 35).
With no press command under execution a standing reservation is lost at once; nothing else changes (R120,
R127, R152). While the line stays at space, and on the supervisor link while the part
drives the pair, a BREAK does nothing; BREAK_END lets the next break be detected and changes nothing else
(R152). PRESS_LINK_RESET waits for a press command under execution; without one,
PHU clears a standing reservation with RES_LOST, and nothing outside the press link changes besides
(R120). -/
def Obligations.LinkResets : Prop :=
  (∀ (st : Station) (s : State), (s.links.get st).lineBreak = false →
     (st = .supervisor → driverEnable s = false) →
     ∃ t, exec (.linkBreak st) s = .next t ∧
       (t.links.get st).receiver = .hunting ∧ (t.links.get st).overrun = false ∧
       (t.links.get st).fifo = [] ∧ (t.links.get st).pace = true ∧
       (t.links.get st).pointer = { table := 0, record := 0, field := 0 } ∧
       (t.links.get st).lineBreak = true ∧
       (t.links.get st).executing =
         (s.links.get st).executing.map (fun e => { e with dropReply := true }) ∧
       (t.links.get st).transmitter = (s.links.get st).transmitter ∧
       (∀ other, other ≠ st → t.links.get other = s.links.get other) ∧
       ((t.withLinks s.links).withPhu s.phu).withNtc s.ntc = s ∧
       if st = .press ∧ s.links.press.executing = none then
         t.links.press.resetOwed = false ∧ t.phu = none ∧
           Raises (kindIf (s.phu.isSome = true) .resLost) s.ntc t.ntc
       else
         t.phu = s.phu ∧ t.ntc = s.ntc ∧
           (st = .press → t.links.press.resetOwed = true)) ∧
  (∀ (st : Station) (s : State),
     ((s.links.get st).lineBreak = true ∨ (st = .supervisor ∧ driverEnable s = true) →
       exec (.linkBreak st) s = .next s) ∧
     ∃ t, exec (.breakEnd st) s = .next t ∧ OnlyLink st s t ∧
       t.links.get st = { s.links.get st with lineBreak := false }) ∧
  ∀ s : State,
    (s.links.press.executing = none →
      ∃ t, exec .pressLinkReset s = .next t ∧ t.phu = none ∧ t.links.press.resetOwed = false ∧
        Raises (kindIf (s.phu.isSome = true) .resLost) s.ntc t.ntc ∧
        OnlyLink .press s ((t.withPhu s.phu).withNtc s.ntc)) ∧
    (s.links.press.executing ≠ none →
      ∃ t, exec .pressLinkReset s = .next t ∧ OnlyLink .press s t ∧
        t.links.press = { s.links.press with resetOwed := true })

/-- A request frame with a correct check that is addressed to the part is accepted when its last bytes arrive at
a unit that holds the bytes before them, from none on, and whose FIFO has room; a frame begun before was not
begun as an overrun. It is taken at once by a free unit, and else appended, with the pace output deasserted
for the fourth (R145 to R150). -/
def Obligations.GoodFrameAccepted : Prop :=
  ∀ (st : Station) (s : State) (unit seq cmd : Byte) (payload begun rest : List Byte),
    payload.length ≤ 64 → canReceive s st = true →
    begun ++ rest = requestFrame unit seq cmd payload → rest ≠ [] →
    (begun = [] ∧ (s.links.get st).receiver = .hunting ∨
      begun ≠ [] ∧ (s.links.get st).receiver = .receiving begun ∧
        (s.links.get st).overrun = false) →
    (s.links.get st).fifo.length < 4 →
    (st = .supervisor → unit = 0 ∨ unit = BitVec.ofNat 8 s.unit) →
    ∃ t, exec (.frameReceived st rest) s = .next t ∧
      OnlyLink st s t ∧ (t.links.get st).receiver = .hunting ∧
      (t.links.get st).transmitter = (s.links.get st).transmitter ∧
      (t.links.get st).pointer = (s.links.get st).pointer ∧
      ((s.links.get st).executing = none ∧ (s.links.get st).transmitter = .idle ∧
          (s.links.get st).fifo = [] ∧ (s.links.get st).resetOwed = false →
        (t.links.get st).fifo = [] ∧ (t.links.get st).pace = true ∧
        (t.links.get st).executing =
          some { frame := { unit := unit, seq := seq, cmd := cmd, payload := payload },
                 dropReply := false }) ∧
      ((s.links.get st).executing ≠ none ∨ (s.links.get st).transmitter ≠ .idle →
        (t.links.get st).executing = (s.links.get st).executing ∧
        (t.links.get st).fifo =
          (s.links.get st).fifo ++ [{ unit := unit, seq := seq, cmd := cmd, payload := payload }] ∧
        (t.links.get st).pace = decide ((s.links.get st).fifo.length < 3))

/-- A frame ends as its last bytes arrive at a unit that holds the bytes before them, from none on. A complete
frame with a wrong check byte is discarded with LINK_ERROR for its own station alone, and so is a checked one
that is addressed to the part and was begun as an overrun, with 4 frames in the FIFO at its START, even if the
FIFO has gained room since; and so is a frame whose LEN lies outside 2 to 66, at once when its LEN arrives. A
checked frame that names another controller on the supervisor link is discarded without notice, an overrun or
not. The receiver hunts again, and nothing else changes (R147 to R149). -/
def Obligations.FramesDiscarded : Prop :=
  ∀ (st : Station) (s : State) (unit : Byte) (begun rest : List Byte), canReceive s st = true →
    rest ≠ [] →
    (begun = [] ∧ (s.links.get st).receiver = .hunting ∨
      begun ≠ [] ∧ (s.links.get st).receiver = .receiving begun) →
    let hunting := { s.links.get st with receiver := .hunting, overrun := false }
    let discarded :=
      ∃ t, exec (.frameReceived st rest) s = .next t ∧ LinkErrorOnly st s.ntc t.ntc ∧
        OnlyLink st s (t.withNtc s.ntc) ∧ t.links.get st = hunting
    (∀ (seq cmd chk : Byte) (payload : List Byte), payload.length ≤ 64 →
      begun ++ rest =
        0xA5 :: unit :: BitVec.ofNat 8 (payload.length + 2) :: seq :: cmd :: (payload ++ [chk]) →
      let good := checkByte (unit :: BitVec.ofNat 8 (payload.length + 2) :: seq :: cmd :: payload)
      (chk ≠ good ∨
          (addressed s st unit = true ∧
            if begun = [] then 4 ≤ (s.links.get st).fifo.length
            else (s.links.get st).overrun = true) →
        discarded) ∧
      (chk = good → st = .supervisor → unit ≠ 0 → unit ≠ BitVec.ofNat 8 s.unit →
        ∃ t, exec (.frameReceived st rest) s = .next t ∧ OnlyLink st s t ∧
          t.links.get st = hunting)) ∧
    ∀ len : Byte, len.toNat < 2 ∨ 66 < len.toNat → begun ++ rest = [0xA5, unit, len] → discarded

/-- A hunting receiver discards every byte but 0xA5, which begins a frame, and an overrun discard when the FIFO
holds 4 frames; bytes that continue a frame in reception without ending it are appended, and nothing else
changes. A gap of more than 5 ms and a byte with a line fault end the frame in reception with LINK_ERROR for
its own station alone; a hunting receiver takes no notice (R147, R149). That FRAME_START is the arrival of one
byte 0xA5 (log 13), and that bytes are lost while the line is at space or the part drives the pair (log 14;
R144, R152), is the model's reading. -/
def Obligations.ReceptionBeginsAndEnds : Prop :=
  ∀ (st : Station) (s : State),
    exec (.frameStart st) s = exec (.frameReceived st [0xA5]) s ∧
    (canReceive s st = false →
      exec (.frameStart st) s = .next s ∧ ∀ bytes, exec (.frameReceived st bytes) s = .next s) ∧
    (canReceive s st = true → (s.links.get st).receiver = .hunting →
      (∃ t, exec (.frameStart st) s = .next t ∧ OnlyLink st s t ∧
        t.links.get st =
          { s.links.get st with
            receiver := .receiving [0xA5]
            overrun := decide (4 ≤ (s.links.get st).fifo.length) }) ∧
      ∀ b : Byte, b ≠ 0xA5 → exec (.frameReceived st [b]) s = .next s) ∧
    (∀ begun more, canReceive s st = true → (s.links.get st).receiver = .receiving begun →
      begun ≠ [] → partialFrame (begun ++ more) →
      ∃ t, exec (.frameReceived st more) s = .next t ∧ OnlyLink st s t ∧
        t.links.get st = { s.links.get st with receiver := .receiving (begun ++ more) }) ∧
    ∀ i : Instr, i = .frameGapTimeout st ∨ i = .parityError st →
      ((s.links.get st).receiver = .hunting → exec i s = .next s) ∧
      ∀ bytes, (s.links.get st).receiver = .receiving bytes →
        ∃ t, exec i s = .next t ∧ LinkErrorOnly st s.ntc t.ntc ∧ OnlyLink st s (t.withNtc s.ntc) ∧
          t.links.get st = { s.links.get st with receiver := .hunting, overrun := false }

/-- A reply of SLU-S that waited for a frame begins when none is being received, with the driver enable
asserted; the end of a reply makes the transmitter IDLE, and a free unit then takes its oldest frame with
the pace output asserted (R144, R149, R150). -/
def Obligations.ReplyBeginsAndEnds : Prop :=
  (∀ (s : State) (f : List Byte), s.links.supervisor.transmitter = .ready f →
    s.links.supervisor.receiver = .hunting →
    ∃ t, exec .replyStart s = .next t ∧ OnlyLink .supervisor s t ∧
      t.links.supervisor = { s.links.supervisor with transmitter := .sending f } ∧
      driverEnable t = true) ∧
  ∀ (st : Station) (s : State) (f : List Byte), (s.links.get st).transmitter = .sending f →
    ∃ t, exec (.replySent st) s = .next t ∧ OnlyLink st s t ∧
      (t.links.get st).transmitter = .idle ∧
      ∀ g rest, (s.links.get st).fifo = g :: rest → (s.links.get st).executing = none →
        (s.links.get st).resetOwed = false →
        (t.links.get st).executing = some { frame := g, dropReply := false } ∧
        (t.links.get st).fifo = rest ∧ (t.links.get st).pace = true

/-- The command of the frame under execution is answered with a reply frame that echoes SEQ and CMD, names
the strap address, counts its bytes in LEN, carries the status and the payload, and sums to 0; a
broadcast and a command that met a link reset leave the transmitter as it was, and SLU-S holds the reply
back while it receives a frame (R144, R146, R148, R150, R152). -/
def Obligations.FrameUnderExecutionAnswered : Prop :=
  ∀ (st : Station) (s : State) (e : Executing), (s.links.get st).executing = some e →
    ∃ t a chk, exec (decodeRequest st e.frame.cmd e.frame.payload) s = .next t ∧
      (t.links.get st).answer = some a ∧
      byteSum
          (BitVec.ofNat 8 s.unit :: BitVec.ofNat 8 (a.payload.length + 3) :: e.frame.seq ::
            e.frame.cmd :: BitVec.ofNat 8 a.status.code :: (a.payload ++ [chk])) = 0 ∧
      let frame :=
        0x5B :: BitVec.ofNat 8 s.unit :: BitVec.ofNat 8 (a.payload.length + 3) :: e.frame.seq ::
          e.frame.cmd :: BitVec.ofNat 8 a.status.code :: (a.payload ++ [chk])
      if (st = .supervisor ∧ e.frame.unit = 0) ∨ e.dropReply = true then
        (t.links.get st).transmitter = (s.links.get st).transmitter
      else
        (t.links.get st).executing = none ∧
        (t.links.get st).transmitter =
          if st = .supervisor ∧ (s.links.get st).isReceiving = true then .ready frame
          else .sending frame

/-- The link unit refuses, in this order, a code that is in no line of the command table, a command that
is not permitted to the station, and a length that the table does not give; nothing else changes. The table
is that of R150, and the status codes are those of R151. -/
def Obligations.LinkUnitChecks : Prop :=
  (∀ cmd : Nat,
    (commandRow cmd).map (fun row => (row.press, row.loader, row.supervisor, row.lens)) =
      List.lookup cmd
        [(0x01, true, true, true, [2]), (0x02, true, true, true, [4]), (0x03, true, true, true, [4]),
         (0x08, true, true, true, [6]), (0x09, false, false, true, [10]),
         (0x0A, false, false, true, [45]), (0x10, true, true, true, [4]),
         (0x11, true, true, true, [4]), (0x12, true, true, true, [4]),
         (0x18, false, true, false, [7, 9]), (0x19, false, true, false, [6]),
         (0x1A, false, true, false, [4]), (0x1C, false, false, true, [3]),
         (0x1D, false, false, true, [2]), (0x20, true, false, false, [2]),
         (0x21, true, false, false, [4]), (0x22, true, false, false, [4]),
         (0x23, true, false, false, [4]), (0x28, false, false, true, [2]),
         (0x29, false, false, true, [2]), (0x2A, false, false, true, [3]),
         (0x2B, true, true, true, [2]), (0x30, false, false, true, [5]),
         (0x31, false, true, true, [3]), (0x32, false, false, true, [2]),
         (0x33, true, true, true, [2])]) ∧
  [Status.ok, .okClamped, .okReplaced].map Status.code = [0, 1, 2] ∧
  [Status.unknownCommand, .notPermitted, .badLength, .range, .readOnly, .inUse, .inconsistent, .busy,
    .uncertain, .tagDup, .tagMismatch, .noPush, .recipeInvalid, .noLot, .recipeMismatch, .lotDone,
    .spacerNeeded, .trackFull, .gateFull, .noBillet, .notReady, .lost, .badStep, .lotQueueFull,
    .noPermit, .noBudget].map Status.code = List.range' 16 26 ∧
  ∀ (st : Station) (cmd : Byte) (payload : List Byte) (s : State), NoResetDue st s →
    (commandRow cmd.toNat = none →
      decodeRequest st cmd payload = .unknownCommand st cmd ∧
      Answers (.unknownCommand st cmd) st s s { status := .unknownCommand, payload := [] }) ∧
    ∀ row, commandRow cmd.toNat = some row →
      (row.permits st = false →
        Answers (decodeRequest st cmd payload) st s s { status := .notPermitted, payload := [] }) ∧
      (row.permits st = true → payload.length + 2 ∉ row.lens →
        Answers (decodeRequest st cmd payload) st s s { status := .badLength, payload := [] })

/-! ### Notices (chapter 10) -/

/-- NOTICE READ gives the set, the order of its highest-priority kind (all ones when it is empty) and the
kinds that the snapshot lacks; the set becomes the snapshot (R156). -/
def Obligations.NoticeReadGivesSet : Prop :=
  ∀ (st : Station) (s : State), NoResetDue st s →
    ∃ highest : Byte,
      ((s.ntc.get st).pending = 0 → highest = 0xFF) ∧
      (∀ k < 12, (s.ntc.get st).pending.getLsbD k = true →
        (∀ j < k, (s.ntc.get st).pending.getLsbD j = false) → highest = BitVec.ofNat 8 k) ∧
      Answers (.noticeRead st (.items ())) st s
        (s.withNtc
          (s.ntc.set st { s.ntc.get st with snapshot := (s.ntc.get st).pending }))
        { status := .ok
          payload :=
            leBytes 2 (s.ntc.get st).pending.toNat ++ [highest] ++
              leBytes 2 ((s.ntc.get st).pending &&& ~~~(s.ntc.get st).snapshot).toNat }

/-- NOTICE CLEAR removes the named kinds from the caller's set and gives the set after the clear; NOTICE MASK
replaces the caller's mask whole and gives the new mask and the set. Bits 12 to 15 are ignored. The
snapshot and the other stations' items stay, and the attention output is then asserted exactly while the
set and the mask share a kind (R155, R157, R158). -/
def Obligations.NoticeClearAndMask : Prop :=
  (∀ (st : Station) (kinds : BitVec 16) (s : State), NoResetDue st s →
     ∃ left : KindSet, ∃ u,
       (∀ k < 12, left.getLsbD k =
         ((s.ntc.get st).pending.getLsbD k && !kinds.getLsbD k)) ∧
       u = s.withNtc (s.ntc.set st { s.ntc.get st with pending := left }) ∧
       Answers (.noticeClear st (.items kinds)) st s u
         { status := .ok, payload := leBytes 2 left.toNat } ∧
       (attention u st = true ↔
         ∃ k < 12, (s.ntc.get st).pending.getLsbD k = true ∧ kinds.getLsbD k = false ∧
           (s.ntc.get st).mask.getLsbD k = true)) ∧
  ∀ (st : Station) (kinds : BitVec 16) (s : State), NoResetDue st s →
    ∃ mask : KindSet, ∃ u, (∀ k < 12, mask.getLsbD k = kinds.getLsbD k) ∧
      u = s.withNtc (s.ntc.set st { s.ntc.get st with mask := mask }) ∧
      Answers (.noticeMask st (.items kinds)) st s u
        { status := .ok
          payload := leBytes 2 mask.toNat ++ leBytes 2 (s.ntc.get st).pending.toNat } ∧
      (attention u st = true ↔
        ∃ k < 12, (s.ntc.get st).pending.getLsbD k = true ∧ kinds.getLsbD k = true)

/-! ### The parameter space (chapter 7) -/

/-- The addresses of the fields, in the order of R123, and what each field holds: an explicit address resolves
when it is one of them, NEXT and PREV walk the order and are refused at its ends, SAME stays, and any other
form is refused (R127). A field reads as its owner holds it, recipe 0 holds the spacer values, and the
written mark is that of a recipe field 0 to 22 and of the zone rating, and set for every other field (R11,
R86, R94, R123, R124, R128). The read-only fields are those of check 2 of R129, the live recipe fields those
that R124 marks, a recipe is in use while a row record, a gate record, the pending push or a lot of the queue
names it (R126), and the width of a field is the fewest bytes that the greatest value of its range needs
(R146). The codes of the enable and of IN_USE (log 15) and of the last status (log 19), and that each field
has the width of its own range (log 16), are the model's reading. -/
def Obligations.FieldsByAddress : Prop :=
  (∀ (pointer : FieldAddress) (x : AddressForm),
     let named : FieldAddress := { table := x.table, record := x.record, field := x.field }
     (x.form = 0 → (named ∈ fieldOrder → resolve pointer x = some named) ∧
       (named ∉ fieldOrder → resolve pointer x = none)) ∧
     (∀ k, fieldOrder[k]? = some pointer →
       (x.form = 1 → resolve pointer x = fieldOrder[k + 1]?) ∧
       (x.form = 2 → resolve pointer x = if k = 0 then none else fieldOrder[k - 1]?)) ∧
     (x.form = 3 → resolve pointer x = some pointer) ∧ (4 ≤ x.form → resolve pointer x = none)) ∧
  (∀ a ∈ fieldOrder,
     (readOnlyField a = true ↔
       (a.table = 0 ∧ (a.field = 2 ∨ a.field = 3)) ∨ (a.table = 1 ∧ 3 ≤ a.field) ∨
         (a.table = 2 ∧ (a.field = 2 ∨ a.record = 1 ∧ a.field = 0)) ∨
         (a.table = 3 ∧ (a.record = 0 ∨ a.field = 23 ∨ a.field = 24))) ∧
     let greatest : List Nat :=
       match a.table with
       | 0 => [4000000, 200, 6400, 65535]
       | 1 => [800, 800000, 1, 2, 4, 65535, 3, 800000]
       | 2 => [6400, 256, 65535]
       | _ =>
         [400000, 128, 240, 2000, 200, 600, 14000, 14000, 14000, 14000, 14000, 14000, 14000, 14000,
          14000, 14000, 14000, 15000, 14000, 120, 3600, 3, 1, 7, 1]
     ∃ v, greatest[a.field]? = some v ∧ v < 256 ^ fieldBytes a ∧
       ∀ n, 1 ≤ n → v < 256 ^ n → fieldBytes a ≤ n) ∧
  (∀ n, recipeLive n = true ↔ n ∈ [6, 7, 8, 9, 10, 11, 12, 13, 14, 15, 16, 18]) ∧
  ∀ s : State,
    (∀ n, recipeInUse s n = true ↔
      (∃ b ∈ s.trk.row, b.recipe = n) ∨ (∃ g ∈ s.trk.gate, g.billet.recipe = n) ∨
        (∃ p, s.trk.push = some p ∧ p.recipe = n) ∨ ∃ l ∈ s.lot.queue, l.recipe = n) ∧
    let row := s.zones.z1.length + s.zones.z2.length + s.zones.z3.length + s.zones.z4.length +
      s.zones.z5.length + s.zones.z6.length + s.zones.z7.length + s.zones.z8.length
    let fields := fun (table record n : Nat) =>
      (List.range n).map fun field =>
        readField s { table := table, record := record, field := field }
    fields 0 0 4 = [some s.pst.budget, some s.pst.period, some row, some s.trk.generation] ∧
    (∀ z : ZoneNo,
      let r := s.zones.get z
      fields 1 z.number 8 =
        [some r.length, r.rating, some (if r.enable = true then 1 else 0),
         some (match r.state with
           | .disabled => 0
           | .active => 1
           | .fault => 2),
         r.lastStatus.map fun status =>
           match status with
           | .ok => 1
           | .limit => 2
           | .fault => 3
           | .mainsLow => 4,
         some r.lastMean, some r.missCount, some r.lastGrant]) ∧
    fields 2 0 3 =
      [some s.pst.positionA, some s.pst.trustA, s.pya.lastSample.map fun x => x.value] ∧
    fields 2 1 3 = [some row, some s.pst.trustB, s.pyb.lastSample.map fun x => x.value] ∧
    (∀ n ≤ 15,
      let f := recipeFields s n
      fields 3 n 25 =
        ([f.cap, f.surf, f.skin, f.cond, f.loss, f.lnom, f.tz.z1, f.tz.z2, f.tz.z3, f.tz.z4, f.tz.z5,
          f.tz.z6, f.tz.z7, f.tz.z8, f.tsLo, f.tsHi, f.tcMin, f.tsMax, f.holdT, f.holdH, f.maxDwell,
          f.spacers, f.acceptMeasured, recipeValidity s n,
          if recipeInUse s n = true then 0 else 1].map some)) ∧
    fields 3 0 24 =
      ([13000, 64, 160, 40, 3, 0, 0, 0, 0, 0, 0, 0, 0, 0, 0, 0, 0, 0, 0, 0, 0, 0, 0, 0].map some) ∧
    ∀ a ∈ fieldOrder,
      writtenMark s a =
        if a.table = 1 ∧ a.field = 1 then (s.zones.get (recordZone a.record)).rating.isSome
        else if a.table = 3 ∧ a.field < 23 ∧ a.record ≠ 0 then
          (s.pst.recipes.getD (a.record - 1) .reset).written.getLsbD a.field
        else true

/-- EXAMINE gives the resolved address, the value (0 where there is none), the validity of a last sample,
the written mark, the kind, and a recipe's VALIDITY and IN_USE; only the pointer moves. An address that
names no field is refused RANGE (R127, R128). The codes of the kind and of IN_USE (log 15) and the width
of the value (log 16) are the model's reading. -/
def Obligations.ExamineReadsField : Prop :=
  ∀ (st : Station) (x : AddressForm) (s : State), NoResetDue st s →
    (resolve (s.links.get st).pointer x = none →
      Answers (.examine st (.items x)) st s s { status := .range, payload := [] }) ∧
    ∀ a, resolve (s.links.get st).pointer x = some a →
      Answers (.examine st (.items x)) st s
        (setLink st { s.links.get st with pointer := a } s)
        { status := .ok
          payload :=
            leBytes 1 a.table ++ leBytes 1 a.record ++ leBytes 1 a.field ++
              leBytes (fieldBytes a) ((readField s a).getD 0) ++
              (if a.table = 2 ∧ a.field = 2 then
                [match (pyroInput s (if a.record = 0 then .a else .b)).lastSample with
                 | none => 0
                 | some v => if v.valid = true then 1 else 2]
               else []) ++
              [if writtenMark s a = true then 1 else 0,
               if readOnlyField a = true then 1
               else if a.table ≠ 3 then 0
               else if recipeLive a.field = true then 3 else 2] ++
              (if a.table = 3 then
                leBytes 1 (recipeValidity s a.record) ++
                  [if recipeInUse s a.record = true then 0 else 1]
               else []) }

/-- A DEPOSIT that passes the checks stores the fitted value, sets the field's written mark, moves the
pointer to the field, answers OK exactly when the stored value is the one sent, and leaves every other field
and mark as it was but for those that follow from it; a zone length that brings R down to X_A or below lowers
X_A to R - 1 (R87, R94, R124, R129 to R131). The width of the value in the reply is the model's reading
(log 16). -/
def Obligations.DepositStoresField : Prop :=
  ∀ (x : DepositArgs) (a : FieldAddress) (v : Nat) (s : State),
    s.pst.recipes.length = 15 → resolve s.links.supervisor.pointer x.address = some a →
    a.named = true → readOnlyField a = false → StoredFor s a x.value v →
    (a.table = 1 → a.field = 0 → s.trk.row = [] ∧ s.trk.gate = [] ∧ s.trk.push = none) →
    (a.table = 3 → recipeInUse s a.record = true →
      recipeLive a.field = true ∧
        ∀ k, 1 ≤ k → k ≤ 6 → relation (setRecipeField (recipeFields s a.record) a.field v) k) →
    ∃ t ans, exec (.deposit .supervisor (.items x)) s = .next t ∧
      t.links.supervisor.answer = some ans ∧
      ans.status = (if v = x.value then .ok else .okClamped) ∧
      ans.payload =
        leBytes 1 a.table ++ leBytes 1 a.record ++ leBytes 1 a.field ++ leBytes (fieldBytes a) v ++
          (if a.table = 3 then leBytes 1 (recipeValidity t a.record) else []) ∧
      readField t a = some v ∧ writtenMark t a = true ∧ t.links.supervisor.pointer = a ∧
      (∀ b, b.named = true → b ≠ a → writtenMark t b = writtenMark s b) ∧
      (a.table = 1 → a.field = 0 →
        t.pst.positionA =
          if rowLength t ≤ s.pst.positionA then rowLength t - 1 else s.pst.positionA) ∧
      (∀ other, other ≠ .supervisor → t.links.get other = s.links.get other) ∧
      (∀ b, b.named = true → b ≠ a → ¬followsFrom a b → readField t b = readField s b) ∧
      ((t.withLinks s.links).withPst s.pst).withZones s.zones = s

/-- DEPOSIT is refused with the first check that fails: RANGE, READ_ONLY, IN_USE for a locked field of a
recipe in use or for a zone length while the track holds anything, INCONSISTENT for a fitted value that
breaks a relation of a recipe in use; nothing changes, and the reply gives the field's present value
(R129, R131). The width of that value (log 16), and all ones where there is none or a VOID sample (log 19),
are the model's reading. -/
def Obligations.DepositRefusedInOrder : Prop :=
  ∀ (x : DepositArgs) (s : State),
    (resolve s.links.supervisor.pointer x.address = none →
      Answers (.deposit .supervisor (.items x)) .supervisor s s { status := .range, payload := [] }) ∧
    ∀ a, resolve s.links.supervisor.pointer x.address = some a →
      let refused := fun (status : Status) =>
        Answers (.deposit .supervisor (.items x)) .supervisor s s
          { status := status
            payload :=
              leBytes 1 a.table ++ leBytes 1 a.record ++ leBytes 1 a.field ++
                match readField s a with
                | none => List.replicate (fieldBytes a) 0xFF
                | some v =>
                  if a.table = 2 ∧ a.field = 2 ∧
                      (pyroInput s (if a.record = 0 then .a else .b)).lastSample.any
                        (fun x => !x.valid) = true then
                    List.replicate (fieldBytes a) 0xFF
                  else leBytes (fieldBytes a) v }
      (readOnlyField a = true → refused .readOnly) ∧
      (readOnlyField a = false → a.table = 3 → recipeInUse s a.record = true →
        (recipeLive a.field = false → refused .inUse) ∧
        (recipeLive a.field = true →
          ∀ v k, StoredFor s a x.value v → 1 ≤ k → k ≤ 6 →
            ¬relation (setRecipeField (recipeFields s a.record) a.field v) k →
            refused .inconsistent)) ∧
      (a.table = 1 → a.field = 0 → ¬(s.trk.row = [] ∧ s.trk.gate = [] ∧ s.trk.push = none) →
        refused .inUse)

/-- The zone state after an enable or a rating has been deposited (R87). -/
def Obligations.ZoneStateFollowsDeposit : Prop :=
  ∀ (z : ZoneNo) (v : Nat) (s : State),
    (∃ t, exec
        (.deposit .supervisor
          (.items { address := { form := 0, table := 1, record := z.number, field := 2 },
                    value := v })) s = .next t ∧
      (v = 0 →
        t.zones.get z = { s.zones.get z with enable := false, state := .disabled }) ∧
      (v ≠ 0 →
        t.zones.get z =
          { s.zones.get z with
            enable := true, missCount := 0
            state :=
              if (s.zones.get z).state = .disabled ∧ (s.zones.get z).rating = none then .disabled
              else .active }) ∧
      ∀ y, y ≠ z → t.zones.get y = s.zones.get y) ∧
    ∃ t w, exec
        (.deposit .supervisor
          (.items { address := { form := 0, table := 1, record := z.number, field := 1 },
                    value := v })) s = .next t ∧
      StoredFor s { table := 1, record := z.number, field := 1 } v w ∧
      (if (s.zones.get z).state = .disabled ∧ (s.zones.get z).enable = true then
        t.zones.get z = { s.zones.get z with rating := some w, state := .active, missCount := 0 }
       else t.zones.get z = { s.zones.get z with rating := some w }) ∧
      ∀ y, y ≠ z → t.zones.get y = s.zones.get y

/-- LOAD RECIPE of a slot 1 to 15 that is not in use writes all 23 fields, each fitted to its range, and
sets every written mark; the reply names the fitted fields; no other recipe changes. Slot 0 is refused
READ_ONLY, a slot above 15 RANGE, a slot in use IN_USE, without change (R132). -/
def Obligations.LoadRecipeWritesWhole : Prop :=
  ∀ (x : LoadArgs) (s : State), s.pst.recipes.length = 15 →
    (x.slot = 0 →
      Answers (.loadRecipe .supervisor (.items x)) .supervisor s s
        { status := .readOnly, payload := [] }) ∧
    (15 < x.slot →
      Answers (.loadRecipe .supervisor (.items x)) .supervisor s s
        { status := .range, payload := [] }) ∧
    (1 ≤ x.slot → x.slot ≤ 15 → recipeInUse s x.slot = true →
      Answers (.loadRecipe .supervisor (.items x)) .supervisor s s
        { status := .inUse, payload := [] }) ∧
    (1 ≤ x.slot → x.slot ≤ 15 → recipeInUse s x.slot = false →
      ∃ u fitted,
        (∀ n < 23, recipeWritten u x.slot n = true ∧
          StoredFor s { table := 3, record := x.slot, field := n } (recipeField x.fields n)
            (recipeField (recipeFields u x.slot) n) ∧
          (fitted.testBit n = true ↔
            recipeField (recipeFields u x.slot) n ≠ recipeField x.fields n)) ∧
        fitted < 2 ^ 23 ∧
        (∀ m, m ≠ x.slot →
          recipeFields u m = recipeFields s m ∧ recipeValidity u m = recipeValidity s m ∧
            ∀ n, recipeWritten u m n = recipeWritten s m n) ∧
        u.withPst { u.pst with recipes := s.pst.recipes } = s ∧
        Answers (.loadRecipe .supervisor (.items x)) .supervisor s u
          { status := if fitted = 0 then .ok else .okClamped
            payload := leBytes 1 x.slot ++ leBytes 1 (recipeValidity u x.slot) ++ leBytes 3 fitted })

/-- The VALIDITY of a recipe 1 to 15 is 0 exactly when every field has been written and the six relations
hold, and else 1 plus the number of the first failing test (R125). -/
def Obligations.ValidityNamesFirstFailure : Prop :=
  ∀ (n : Nat) (s : State), 1 ≤ n → n ≤ 15 →
    let written := ∀ k < 23, recipeWritten s n k = true
    (recipeValidity s n = 0 ↔ written ∧ ∀ k, 1 ≤ k → k ≤ 6 → relation (recipeFields s n) k) ∧
    (recipeValidity s n = 1 ↔ ¬written) ∧
    ∀ k, 1 ≤ k → k ≤ 6 →
      (recipeValidity s n = k + 1 ↔
        written ∧ (∀ j, 1 ≤ j → j < k → relation (recipeFields s n) j) ∧
          ¬relation (recipeFields s n) k)

/-! ### The billet track (chapter 1) -/

/-- MAP gives the generation, the track state, the total count, the first index, and the 16-byte summaries of
the records that exist among those asked for, gate first; a count of 0 or above 3 is refused RANGE; nothing
changes (R27, R28, R151). -/
def Obligations.MapAnswers : Prop :=
  ∀ (st : Station) (x : MapArgs) (s : State), NoResetDue st s →
    let summary := fun (b : Billet) (gate : Option GateBillet) =>
      leBytes 2 b.tag ++ leBytes 1 b.recipe ++ leBytes 1 b.lot ++ leBytes 2 b.length ++
        leBytes 2 b.trailing ++ leBytes 2 b.ts ++ leBytes 2 b.tc ++
        leBytes 1
          ((if b.estimate = .untracked then 1 else 0) + (if b.marks.overheated = true then 2 else 0) +
            (if b.marks.overdwell = true then 4 else 0) + (if b.marks.guarded = true then 8 else 0) +
            (if gate = none then 0 else 16)) ++
        leBytes 1
          (match gate with
           | none => 0
           | some g =>
             match g.verdict with
             | .pending => 1
             | .ready => 2
             | .under => 3
             | .over => 4
             | .suspect => 5
             | .spacer => 6
             | .overdwell => 7) ++
        leBytes 2 (min 65535 (s.secs - b.entryTime))
    (x.count = 0 ∨ 3 < x.count →
      Answers (.map st (.items x)) st s s { status := .range, payload := [] }) ∧
    (1 ≤ x.count → x.count ≤ 3 →
      Answers (.map st (.items x)) st s s
        { status := .ok
          payload :=
            leBytes 2 s.trk.generation ++
              leBytes 1 (match s.trk.state with
                | .idle => 0
                | .pushing => 1
                | .uncertain => 2) ++
              leBytes 1 (s.trk.gate.length + s.trk.row.length) ++ leBytes 1 x.first ++
              ((((s.trk.gate.map fun g => summary g.billet (some g)) ++
                s.trk.row.map fun b => summary b none).drop x.first).take x.count).flatten })

/-- BILLET answers for the record or the pending push that holds the tag, refuses tag 0 with RANGE and a tag
that nothing holds with NO_BILLET, and changes nothing. The reply for a record carries its place, its index
in MAP order, gate first, and every field of R2 with the leading face and the dwell. The order of the items
of a record (log 17) and the codes of the place, 0 row, 1 gate and 2 PENDING (log 15), are the model's
reading of R2 and R29. -/
def Obligations.BilletAnswers : Prop :=
  ∀ (st : Station) (tag : Nat) (s : State), NoResetDue st s →
    (tag = 0 → Answers (.billet st (.items tag)) st s s { status := .range, payload := [] }) ∧
    (tag ≠ 0 → tag ∉ trackTags s →
      Answers (.billet st (.items tag)) st s s { status := .noBillet, payload := [] }) ∧
    (∀ p, tag ≠ 0 → TagsDistinct s → s.trk.push = some p → p.tag = tag →
      Answers (.billet st (.items tag)) st s s
        { status := .ok
          payload :=
            leBytes 2 s.trk.generation ++ ([2] : List Byte) ++ leBytes 2 p.tag ++ leBytes 1 p.recipe ++
              leBytes 2 p.length ++ leBytes 1 p.lot ++ leBytes 2 p.entryTemp ++
              leBytes 6 p.grantTime ++
              leBytes 1 (match s.trk.state with
                | .idle => 0
                | .pushing => 1
                | .uncertain => 2) }) ∧
    ∀ i b gate, tag ≠ 0 → TagsDistinct s →
      ((s.trk.gate.map fun g => (g.billet, some g)) ++ s.trk.row.map fun b => (b, none))[i]? =
        some (b, gate) →
      b.tag = tag →
      Answers (.billet st (.items tag)) st s s
        { status := .ok
          payload :=
            leBytes 2 s.trk.generation ++ leBytes 1 (if gate = none then 0 else 1) ++ leBytes 1 i ++
              leBytes 2 b.tag ++ leBytes 1 b.recipe ++ leBytes 1 b.lot ++ leBytes 2 b.length ++
              leBytes 2 b.trailing ++ leBytes 2 b.entryTemp ++ leBytes 2 b.ts ++ leBytes 2 b.tc ++
              leBytes 1 (if b.estimate = .untracked then 1 else 0) ++
              leBytes 1
                ((if b.marks.overheated = true then 1 else 0) +
                  (if b.marks.overdwell = true then 2 else 0) +
                  (if b.marks.guarded = true then 4 else 0)) ++
              leBytes 4 b.entryTime ++ leBytes 4 b.energy ++ leBytes 2 (b.trailing + b.length) ++
              leBytes 4 (s.secs - b.entryTime) ++
              (match b.measurement with
               | none => ([0xFF, 0xFF, 0xFF] : List Byte)
               | some m =>
                 leBytes 1 (match m.source with
                   | .a => 0
                   | .b => 1) ++
                   match m.value with
                   | none => ([0xFF, 0xFF] : List Byte)
                   | some v => leBytes 2 v) ++
              match gate with
              | none => (List.replicate 7 0xFF : List Byte)
              | some g =>
                leBytes 1 (match g.verdict with
                    | .pending => 0
                    | .ready => 1
                    | .under => 2
                    | .over => 3
                    | .suspect => 4
                    | .spacer => 5
                    | .overdwell => 6) ++
                  match g.frontTime with
                  | none => (List.replicate 6 0xFF : List Byte)
                  | some ms => leBytes 6 ms }

/-- CLASSIFY gives the generation, the number of records in at least one named class and the tags of the
first 24 of them in MAP order, the gate and then the row; an empty mask and a mask beyond the nine classes
are refused RANGE; nothing changes (R27, R30). -/
def Obligations.ClassifyAnswers : Prop :=
  ∀ (st : Station) (mask : BitVec 16) (s : State), NoResetDue st s →
    (mask = 0 ∨ (∃ k, 9 ≤ k ∧ mask.getLsbD k = true) →
      Answers (.classify st (.items mask)) st s s { status := .range, payload := [] }) ∧
    (mask ≠ 0 → (∀ k, 9 ≤ k → mask.getLsbD k = false) →
      let order : List Placed :=
        (s.trk.gate.map fun g => { billet := g.billet, gate := some g }) ++
          s.trk.row.map fun b => { billet := b, gate := none }
      ∃ hits : List Placed, hits.Sublist order ∧
        (∀ p ∈ order, p ∈ hits ↔ ∃ k, mask.getLsbD k = true ∧ InClass p k) ∧
        hits.length = order.countP (fun p => decide (p ∈ hits)) ∧
        Answers (.classify st (.items mask)) st s s
          { status := .ok
            payload :=
              leBytes 2 s.trk.generation ++ leBytes 1 hits.length ++
                ((hits.take 24).map fun p => leBytes 2 p.billet.tag).flatten })

/-- A PUSH REQUEST that passes the seven checks is granted: the pending push is stored with the lot
number and the entry temperature (20.0 °C when absent, at most 600.0 °C), the track is PUSHING, the push
timer runs for 10.0 s, and nothing else changes (R13, R14, R139). That a lot left after the newest has
closed, its to-load raised by LOT ADJUST, admits a push without a LOT OPEN is the model's reading (log 36). -/
def Obligations.PushRequestGranted : Prop :=
  ∀ (x : PushArgs) (lot : Nat) (s : State),
    s.trk.state = .idle → x.tag ≠ 0 → x.tag ∉ trackTags s → 60 ≤ x.length → x.length ≤ 600 →
    x.recipe ≤ 15 → recipeValidity s x.recipe = 0 →
    Admitted s x.recipe lot →
    s.trk.row.length + 1 - (leaving s x.length).length ≤ 40 →
    s.trk.gate.length + (leaving s x.length).length ≤ 2 →
    let temp := match x.entryTemp with
      | none => 200
      | some v => if 6000 < v then 6000 else v
    Answers (.pushRequest .loader (.items x)) .loader s
      (s.withTrk
        { s.trk with
          push :=
            some
              { tag := x.tag, recipe := x.recipe, lot := lot, length := x.length, entryTemp := temp,
                grantTime := s.ms }
          state := .pushing
          timer := some (s.ms + 10000) })
      { status := if ∃ v, x.entryTemp = some v ∧ 6000 < v then .okClamped else .ok
        payload := leBytes 2 x.tag ++ leBytes 1 lot ++ leBytes 2 temp ++ leBytes 2 s.trk.generation }

/-- A PUSH REQUEST is refused with the status of the first of the seven checks that fails, and nothing
changes (R13, R139). That a push of another recipe is refused RECIPE_MISMATCH also when the newest of two
lots has closed is the model's reading (log 36). -/
def Obligations.PushRequestRefusedInOrder : Prop :=
  ∀ (x : PushArgs) (s : State),
    let refused := fun (status : Status) =>
      Answers (.pushRequest .loader (.items x)) .loader s s { status := status, payload := [] }
    (s.trk.state = .pushing → refused .busy) ∧
    (s.trk.state = .uncertain → refused .uncertain) ∧
    (s.trk.state = .idle →
      (x.tag = 0 → refused .range) ∧
      (x.tag ≠ 0 → x.tag ∈ trackTags s → refused .tagDup) ∧
      (x.tag ≠ 0 → x.tag ∉ trackTags s →
        (¬(60 ≤ x.length ∧ x.length ≤ 600) → refused .range) ∧
        (60 ≤ x.length → x.length ≤ 600 →
          (15 < x.recipe ∨ recipeValidity s x.recipe ≠ 0 → refused .recipeInvalid) ∧
          (x.recipe ≤ 15 → recipeValidity s x.recipe = 0 →
            (x.recipe ≠ 0 → s.lot.queue = [] → refused .noLot) ∧
            (∀ l, x.recipe ≠ 0 → s.lot.queue.getLast? = some l →
              (x.recipe ≠ l.recipe → refused .recipeMismatch) ∧
              (x.recipe = l.recipe → l.toLoad = 0 ∨ 65535 ≤ l.loaded → refused .lotDone) ∧
              (x.recipe = l.recipe → 0 < l.toLoad → l.loaded < 65535 →
                ∀ r, s.lot.lastRecipe = some r → r ≠ l.recipe →
                  s.lot.spacers < (recipeFields s l.recipe).spacers ∨
                    s.lot.spacers < (recipeFields s r).spacers →
                  refused .spacerNeeded)) ∧
            (∀ lot, Admitted s x.recipe lot →
              (40 < s.trk.row.length + 1 - (leaving s x.length).length → refused .trackFull) ∧
              (s.trk.row.length + 1 - (leaving s x.length).length ≤ 40 →
                2 < s.trk.gate.length + (leaving s x.length).length → refused .gateFull))))))

/-- PUSH DONE with the tag of the pending push and a stroke within 8 mm of its length applies the push; the
reply has the slip indicator clear. A stroke more than 8 mm from the length, and the expiry of the push
timer in PUSHING, make the track UNCERTAIN with the pending push kept; before its time the timer does not
expire (log 3). The slip's reply is OK with the slip
indicator set (R16 to R18, R20, R21, R57, R98, R140). That the slip indicator is the first item of the
reply, 1 when set, is the model's reading (log 15). -/
def Obligations.PushDoneAndTimeout : Prop :=
  (∀ (x : PushDoneArgs) (p : PendingPush) (s : State),
     s.trk.state = .pushing → s.trk.push = some p → x.tag = p.tag → x.stroke ≤ p.length + 8 →
     p.length ≤ x.stroke + 8 →
     ∃ u, PushApplied p .tracked s u ∧ ((u.withTrk s.trk).withEvu s.evu).withLot s.lot = s ∧
       Answers (.pushDone .loader (.items x)) .loader s u
         { status := .ok
           payload :=
             [0] ++ leBytes 2 x.stroke ++ leBytes 2 p.length ++
               leBytes 1 (leaving s p.length).length ++ leBytes 1 u.trk.row.length ++
               leBytes 1 u.trk.gate.length ++ leBytes 2 u.trk.generation }) ∧
  (∀ (x : PushDoneArgs) (p : PendingPush) (s : State),
    s.trk.state = .pushing → s.trk.push = some p → x.tag = p.tag →
    (p.length + 8 < x.stroke ∨ x.stroke + 8 < p.length) →
    ∃ u, EntersUncertain s u ∧
      Answers (.pushDone .loader (.items x)) .loader s u
        { status := .ok
          payload :=
            [1] ++ leBytes 2 x.stroke ++ leBytes 2 p.length ++ leBytes 2 s.trk.generation }) ∧
  ∀ (s : State) (expiry : Nat), s.trk.state = .pushing → s.trk.timer = some expiry →
    (expiry ≤ s.ms → ∃ t, exec .pushTimerExpiry s = .next t ∧ EntersUncertain s t) ∧
    (s.ms < expiry → exec .pushTimerExpiry s = .next s)

/-- PUSH CANCEL with the tag of the pending push drops it: the track is IDLE, no record, position or
generation changes, and the lots are tested for closing. A report with another tag is refused
TAG_MISMATCH, and one outside PUSHING NO_PUSH, without change (R16, R19, R22, R135). -/
def Obligations.PushCancelDropsPush : Prop :=
  ∀ (tag : Nat) (s : State),
    (∀ p, s.trk.state = .pushing → s.trk.push = some p → p.tag = tag →
      ∃ u, u.trk = { s.trk with push := none, state := .idle, timer := none } ∧
        u.lot = testedLots u.trk s.lot ∧
        Raises (kindIf (endedLots u.trk s.lot.queue ≠ []) .lotClosed) s.ntc u.ntc ∧
        ((u.withTrk s.trk).withLot s.lot).withNtc s.ntc = s ∧
        Answers (.pushCancel .loader (.items tag)) .loader s u { status := .ok, payload := [] }) ∧
    (∀ p, s.trk.state = .pushing → s.trk.push = some p → p.tag ≠ tag →
      Answers (.pushCancel .loader (.items tag)) .loader s s
          { status := .tagMismatch, payload := [] } ∧
        ∀ stroke, Answers (.pushDone .loader (.items { tag := tag, stroke := stroke })) .loader s s
          { status := .tagMismatch, payload := [] }) ∧
    (s.trk.state ≠ .pushing →
      Answers (.pushCancel .loader (.items tag)) .loader s s { status := .noPush, payload := [] } ∧
        ∀ stroke, Answers (.pushDone .loader (.items { tag := tag, stroke := stroke })) .loader s s
          { status := .noPush, payload := [] })

/-- RESYNC in UNCERTAIN settles the pending push: "applied" applies it with an UNTRACKED record, "not
applied" drops it; the generation counts up, the track is IDLE, and a BLOCKED dispatcher returns to RUN.
Another decision is refused RANGE, and RESYNC in IDLE or PUSHING BUSY, without change (R23, R57, R135,
R140). -/
def Obligations.ResyncSettlesPush : Prop :=
  ∀ s : State,
    (∀ p, s.trk.state = .uncertain → s.trk.push = some p →
      (∃ u, PushApplied p .untracked s u ∧ u.dsp = leftUncertain s ∧
        (((u.withTrk s.trk).withEvu s.evu).withLot s.lot).withDsp s.dsp = s ∧
        Answers (.resync .supervisor (.items 1)) .supervisor s u
          { status := .ok
            payload :=
              leBytes 1 (leaving s p.length).length ++ leBytes 1 u.trk.row.length ++
                leBytes 1 u.trk.gate.length ++ leBytes 2 u.trk.generation }) ∧
      ∃ u, u.trk =
          { s.trk with
            push := none, state := .idle, timer := none
            generation := (s.trk.generation + 1) % 65536 } ∧
        u.lot = testedLots u.trk s.lot ∧
        Raises (kindIf (endedLots u.trk s.lot.queue ≠ []) .lotClosed) s.ntc u.ntc ∧
        u.dsp = leftUncertain s ∧
        (((u.withTrk s.trk).withLot s.lot).withNtc s.ntc).withDsp s.dsp = s ∧
        Answers (.resync .supervisor (.items 0)) .supervisor s u
          { status := .ok
            payload :=
              [0] ++ leBytes 1 s.trk.row.length ++ leBytes 1 s.trk.gate.length ++
                leBytes 2 u.trk.generation }) ∧
    (s.trk.state = .uncertain → ∀ d, 2 ≤ d →
      Answers (.resync .supervisor (.items d)) .supervisor s s
        { status := .range, payload := [] }) ∧
    (s.trk.state ≠ .uncertain → ∀ d,
      Answers (.resync .supervisor (.items d)) .supervisor s s { status := .busy, payload := [] })

/-- PURGE empties the track in every state: each removed billet that is not a spacer is lost in its lot,
RUN_OUT lots close, a standing reservation is lost, the gate is reported empty, GATE_SPACE is raised when
the gate held a record, the generation counts up, and a dispatcher BLOCKED for the uncertainty returns to
RUN; nothing else changes (R25, R57, R98, R119, R135, R141). That the reply's indicator of a dropped pending
push is 1 when set is the model's reading (log 15). -/
def Obligations.PurgeEmptiesTrack : Prop :=
  ∀ s : State, ∃ u,
    u.trk =
        { row := [], gate := [], push := none, state := .idle, timer := none
          generation := (s.trk.generation + 1) % 65536 } ∧
      u.evu = emptyGate ∧ u.phu = none ∧
      u.dsp = (if s.trk.state = .uncertain then leftUncertain s else s.dsp) ∧
      (∃ queue : List Lot,
        queue =
            (s.lot.queue.map fun l =>
              { l with
                lost :=
                  l.lost +
                    (billets s).countP fun b => decide (b.recipe ≠ 0 ∧ b.lot = l.number) }) ∧
        u.lot =
          { s.lot with
            queue := queue.filter fun l => decide (l.toLoad ≠ 0)
            lastClosed :=
              ((queue.filter fun l => decide (l.toLoad = 0)).getLast?).or s.lot.lastClosed }) ∧
      Raises
        (kindIf (∃ l ∈ s.lot.queue, l.toLoad = 0) .lotClosed |||
          kindIf (s.phu ≠ none) .resLost ||| kindIf (s.trk.gate ≠ []) .gateSpace) s.ntc u.ntc ∧
      (((((u.withTrk s.trk).withEvu s.evu).withPhu s.phu).withDsp s.dsp).withLot s.lot).withNtc
        s.ntc = s ∧
      Answers (.purge .supervisor (.items ())) .supervisor s u
        { status := .ok
          payload :=
            leBytes 1 s.trk.row.length ++ leBytes 1 s.trk.gate.length ++
              [if s.trk.push = none then 0 else 1] ++ leBytes 2 u.trk.generation }

/-- But for power-on reset, the generation counts up by one, modulo 65536, exactly when a push is applied by
PUSH DONE, RESYNC settles a push, an accepted TAKE or DISCARD removes the front, or PURGE is taken, and stays
at everything else (R10). -/
def Obligations.GenerationCountsStructure : Prop :=
  ∀ (i : Instr) (s t : State), exec i s = .next t → (∀ straps, i ≠ .powerOnReset straps) →
    (ChangesStructure i s → t.trk.generation = (s.trk.generation + 1) % 65536) ∧
    (¬ChangesStructure i s → t.trk.generation = s.trk.generation)

/-- No command and no event but power-on reset changes the identity of a record that stays in the track,
makes an UNTRACKED record TRACKED, or takes the OVERHEATED or OVERDWELL mark from it (R3, R45). -/
def Obligations.RecordsKeepDoubtAndMarks : Prop :=
  ∀ (i : Instr) (s t : State), exec i s = .next t → (∀ straps, i ≠ .powerOnReset straps) →
    TagsDistinct s → ∀ b ∈ billets s, ∀ c ∈ billets t, c.tag = b.tag →
      c.recipe = b.recipe ∧ c.lot = b.lot ∧ c.length = b.length ∧ c.entryTemp = b.entryTemp ∧
      c.entryTime = b.entryTime ∧ (b.energy ≤ 4294967295 → b.energy ≤ c.energy) ∧
      (b.estimate = .untracked → c.estimate = .untracked) ∧
      (b.marks.overheated = true → c.marks.overheated = true) ∧
      (b.marks.overdwell = true → c.marks.overdwell = true)

/-! ### The press handover (chapter 6) -/

/-- TAKE of the reserved tag and DISCARD of the front's tag remove the gate front with all that follows from
it, and give the final record, the exit measurement and the new generation; TAKE counts the billet forged,
DISCARD a billet that is not a spacer rejected. TAKE is refused LOST when no reservation stands, for a tag
other than the reserved one, for tag 0 and for an empty gate; DISCARD is refused NO_BILLET for an empty gate
and TAG_MISMATCH for a tag that is not the front's, without change (R26, R63, R65, R114 to R116, R121). -/
def Obligations.TakeAndDiscard : Prop :=
  (∀ (g : GateBillet) (rest : List GateBillet) (s : State), s.trk.gate = g :: rest →
     NoResetDue .press s → g.billet.tag ≠ 0 →
     let final := fun (u : State) =>
       leBytes 2 g.billet.tag ++ leBytes 1 g.billet.recipe ++ leBytes 1 g.billet.lot ++
         leBytes 2 g.billet.length ++ leBytes 2 g.billet.ts ++ leBytes 2 g.billet.tc ++
         leBytes 1 (if g.billet.estimate = .untracked then 1 else 0) ++
         leBytes 1
           ((if g.billet.marks.overheated = true then 1 else 0) +
             (if g.billet.marks.overdwell = true then 2 else 0) +
             (if g.billet.marks.guarded = true then 4 else 0)) ++
         leBytes 4 g.billet.energy ++ leBytes 4 (s.secs - g.billet.entryTime) ++
         (match g.billet.measurement with
          | none => ([0xFF, 0xFF, 0xFF] : List Byte)
          | some m =>
            leBytes 1 (match m.source with
              | .a => 0
              | .b => 1) ++
              match m.value with
              | none => ([0xFF, 0xFF] : List Byte)
              | some v => leBytes 2 v) ++
         leBytes 1 (match g.verdict with
           | .pending => 0
           | .ready => 1
           | .under => 2
           | .over => 3
           | .suspect => 4
           | .spacer => 5
           | .overdwell => 6) ++
         (match s.evu.exitM with
          | none => ([0xFF, 0xFF] : List Byte)
          | some m => leBytes 2 m) ++
         leBytes 2 u.trk.generation
     (∀ r, s.phu = some r → r.tag = g.billet.tag →
       ∃ u, HandedOver (fun l => { l with forged := l.forged + 1 }) g s u ∧
         Answers (.take .press (.items g.billet.tag)) .press s u
           { status := .ok, payload := final u }) ∧
     ∃ u, HandedOver (fun l => { l with rejected := l.rejected + 1 }) g s u ∧
       Answers (.discard .press (.items g.billet.tag)) .press s u { status := .ok, payload := final u }) ∧
  ∀ (tag : Nat) (s : State), NoResetDue .press s →
    (s.phu = none ∨ (∃ r, s.phu = some r ∧ r.tag ≠ tag) ∨ tag = 0 ∨ s.trk.gate = [] →
      Answers (.take .press (.items tag)) .press s s { status := .lost, payload := [] }) ∧
    (s.trk.gate = [] →
      Answers (.discard .press (.items tag)) .press s s { status := .noBillet, payload := [] }) ∧
    ∀ g rest, s.trk.gate = g :: rest → g.billet.tag ≠ tag →
      Answers (.discard .press (.items tag)) .press s s { status := .tagMismatch, payload := [] }

/-- RESERVE sets or renews the reservation of a READY front with a lapse of 4.0 s and gives the front's values;
another front is refused NOT_READY with its tag and verdict, an empty gate NO_BILLET, without change (R111).
The expiry of the lapse timer, 4.0 s after the latest RESERVE, clears the reservation with RES_LOST and changes
nothing else (R113); that a row of that expiry does nothing before that time is the model's choice (log 3). -/
def Obligations.ReserveAndLapse : Prop :=
  (∀ s : State, NoResetDue .press s →
     (s.trk.gate = [] →
       Answers (.reserve .press (.items ())) .press s s { status := .noBillet, payload := [] }) ∧
     ∀ g rest, s.trk.gate = g :: rest →
       (g.verdict ≠ .ready →
         Answers (.reserve .press (.items ())) .press s s
           { status := .notReady, payload := leBytes 2 g.billet.tag ++ leBytes 1 g.verdict.code }) ∧
       (g.verdict = .ready →
         Answers (.reserve .press (.items ())) .press s
           (s.withPhu (some { tag := g.billet.tag, lapse := s.ms + 4000 }))
           { status := .ok
             payload :=
               leBytes 2 g.billet.tag ++ leBytes 1 g.billet.recipe ++ leBytes 1 g.billet.lot ++
                 leBytes 2 g.billet.ts ++ leBytes 2 g.billet.tc ++
                 (match s.evu.exitM with
                  | none => ([0xFF, 0xFF] : List Byte)
                  | some m => leBytes 2 m) })) ∧
  ∀ (r : Reservation) (s : State), s.phu = some r →
    (r.lapse ≤ s.ms →
      ∃ t, exec .lapseTimerExpiry s = .next t ∧ t.phu = none ∧
        Raises Notice.resLost.bit s.ntc t.ntc ∧ (t.withPhu s.phu).withNtc s.ntc = s) ∧
    (s.ms < r.lapse → exec .lapseTimerExpiry s = .next s)

/-! ### The dispatcher (chapter 3) -/

/-- CADENCE stores the fitted cycle as the pending cadence, and the reply tells a clamped value, else a
replaced one; the current cadence, the inference and the handover time stay (R61); that the replaced
indicator is 1 when set is the model's reading (log 15). RUN in RUN is answered OK without change; elsewhere
it is refused NO_PERMIT, NO_BUDGET or UNCERTAIN by the first check that fails, and else enters RUN; its reply
carries the state after the command (R54). STOP moves RUN and BLOCKED to STOPPED with the held grants,
setpoints and total demand at 0, changes nothing in STOPPED, and is answered OK (R53, R55). -/
def Obligations.CadenceRunAndStop : Prop :=
  (∀ (v : Nat) (s : State), NoResetDue .press s →
     let stored := if v = 0 then 0 else if v < 20 then 20 else if 1200 < v then 1200 else v
     Answers (.cadence .press (.items v)) .press s
       (s.withDsp { s.dsp with pendingCadence := some stored })
       { status :=
           if stored ≠ v then .okClamped else if s.dsp.pendingCadence = none then .ok else .okReplaced
         payload := leBytes 2 stored ++ [if s.dsp.pendingCadence = none then 0 else 1] }) ∧
  (∀ s : State,
     let refused := fun (status : Status) =>
       Answers (.run .supervisor (.items ())) .supervisor s s
         { status := status, payload := leBytes 1 s.dsp.state.code }
     (s.dsp.state = .run → refused .ok) ∧
     (s.dsp.state ≠ .run →
       (s.permit = false → refused .noPermit) ∧
       (s.permit = true → s.pst.budget = 0 → refused .noBudget) ∧
       (s.permit = true → 0 < s.pst.budget → s.trk.state = .uncertain → refused .uncertain) ∧
       (s.permit = true → 0 < s.pst.budget → s.trk.state ≠ .uncertain →
         Answers (.run .supervisor (.items ())) .supervisor s
           (s.withDsp { s.dsp with state := .run }) { status := .ok, payload := [1] }))) ∧
  ∀ s : State,
    (s.dsp.state = .stopped →
      Answers (.stop .supervisor (.items ())) .supervisor s s { status := .ok, payload := [] }) ∧
    (s.dsp.state ≠ .stopped →
      Answers (.stop .supervisor (.items ())) .supervisor s
        (s.withDsp
          { s.dsp with
            state := .stopped, grants := .const 0, setpoints := .const 0, totalDemand := 0 })
        { status := .ok, payload := [] })

/-- DISPATCH STATUS changes nothing and gives 58 bytes, the items of R76 in its order. The codes of PERMIT
and of the effective cadence are the model's reading of the order of R76's words (log 15). -/
def Obligations.DispatchStatusReports : Prop :=
  ∀ (st : Station) (s : State), NoResetDue st s →
    ∃ payload : List Byte, payload.length = 58 ∧
      payload =
        leBytes 1 (match s.dsp.state with
            | .stopped => 0
            | .run => 1
            | .blocked => 2) ++
          leBytes 1 (match s.trk.state with
            | .idle => 0
            | .pushing => 1
            | .uncertain => 2) ++
          leBytes 1 (if s.permit = true then 0 else 1) ++
          leBytes 2 (match s.dsp.cadence with
            | .hold => 0
            | .running c => c / 100) ++
          (match s.dsp.pendingCadence with
           | none => ([0xFF, 0xFF] : List Byte)
           | some v => leBytes 2 v) ++
          leBytes 1
            (if s.dsp.inferred = true then 2
             else
               match s.dsp.cadence with
               | .running _ => 0
               | .hold => 1) ++
          leBytes 2 (min 65535 ((s.ms - s.dsp.lastHandover) / 100)) ++
          leBytes 3 s.pst.budget ++ leBytes 1 s.pst.period ++ leBytes 3 s.dsp.totalDemand ++
          (s.dsp.grants.toList.map (leBytes 3)).flatten ++
          (s.dsp.setpoints.toList.map (leBytes 2)).flatten ++
          leBytes 1 ((billets s).countP fun b => b.marks.guarded) ∧
      Answers (.dispatchStatus st (.items ())) st s s { status := .ok, payload := payload }

/-- At every expiry of the dispatch timer a pending cadence is applied first, then the press is inferred idle
by R64's test, the dispatcher state stays, and the timer starts again with the period of the LINE table.
The set handed to ILC is the stored one: with no round in progress it begins a round, with its grants the
last grants and channel 1 polled, and else it becomes the waiting set; outside RUN every grant and setpoint
of it is 0 and GUARDED is cleared from every record, with no other change of the track (R53, R58, R59, R62,
R64, R66, R80, R81). Before it is due the timer does not expire (log 3). -/
def Obligations.DispatchExpiry : Prop :=
  (∀ s : State, s.ms < s.dsp.timerExpiry → exec .dispatchTimerExpiry s = .next s) ∧
  ∀ s : State, s.dsp.timerExpiry ≤ s.ms → ∃ t, exec .dispatchTimerExpiry s = .next t ∧
    t.dsp.state = s.dsp.state ∧ t.dsp.timerInterval = s.pst.period ∧
    t.dsp.timerExpiry = s.ms + s.pst.period ∧ t.dsp.pendingCadence = none ∧
    (∀ v, s.dsp.pendingCadence = some v →
      t.dsp.cadence = (if v = 0 then .hold else .running (v * 100)) ∧ t.dsp.lastHandover = s.ms ∧
        t.dsp.inferred = false) ∧
    (s.dsp.pendingCadence = none →
      t.dsp.cadence = s.dsp.cadence ∧ t.dsp.lastHandover = s.dsp.lastHandover ∧
        (t.dsp.inferred = true ↔
          s.dsp.inferred = true ∨
            ∃ c, s.dsp.cadence = .running c ∧ s.trk.gate ≠ [] ∧
              2 * c < s.ms - s.dsp.lastHandover)) ∧
    ((((t.withDsp s.dsp).withTrk s.trk).withIlc s.ilc).withZones s.zones) = s ∧
    let handed : DispatchSet := { setpoints := t.dsp.setpoints, grants := t.dsp.grants }
    (s.dsp.state ≠ .run →
      t.dsp.grants = .const 0 ∧ t.dsp.setpoints = .const 0 ∧ t.dsp.totalDemand = 0 ∧
        let unguarded := fun (b : Billet) => { b with marks := { b.marks with guarded := false } }
        t.trk =
          { s.trk with
            row := s.trk.row.map unguarded
            gate := s.trk.gate.map fun g => { g with billet := unguarded g.billet } }) ∧
    (s.ilc.round = none →
      t.ilc.round =
          some
            { carried := handed
              poll :=
                { channel := .z1
                  setpoint := if s.zones.z1.state = .active then t.dsp.setpoints.z1 else 0
                  ack := s.ilc.ack.z1
                  spoiled := false } } ∧
        t.ilc.waiting = s.ilc.waiting ∧ t.ilc.ack = s.ilc.ack ∧ t.ilc.replied = s.ilc.replied ∧
        (∀ z, t.ilc.entries.get z = none) ∧
        ∀ z, t.zones.get z = { s.zones.get z with lastGrant := t.dsp.grants.get z }) ∧
    (s.ilc.round ≠ none → t.ilc = { s.ilc with waiting := some handed } ∧ t.zones = s.zones)

/-- In RUN, the demand of a row record: none for a spacer, a marked record, or one within 15.0 °C of
TSMAX; else the heat that lifts its mean temperature to the goal of its zone, over the time that it has
(R66 to R70). -/
def Obligations.DemandOfRecord : Prop :=
  ∀ (s : State) (b : Billet),
    let f := recipeFields s b.recipe
    let m := b.trailing + b.length / 2
    let held := s.dsp.inferred = true ∨ s.dsp.cadence = .hold
    let total := f.cap * b.length
    let surface := total * f.surf / 256
    let mean := (surface * b.ts + (total - surface) * b.tc) / total
    (b.recipe = 0 ∨ b.marks.overheated = true ∨ b.marks.overdwell = true ∨ f.tsMax ≤ b.ts + 150 →
      recordDemand s b = 0) ∧
    (b.recipe ≠ 0 → b.marks.overheated = false → b.marks.overdwell = false →
      b.ts + 150 < f.tsMax →
      ∀ z, (zoneStart s z ≤ m ∧ m < zoneEnd s z ∨ z = .z8 ∧ rowLength s ≤ m) →
        (held →
          recordDemand s b =
            total * (min (f.tz.get z) f.holdT - mean) / 10000 * 1000 /
              max 1000 (f.holdH * 1000)) ∧
        (∀ c, s.dsp.inferred = false → s.dsp.cadence = .running c →
          recordDemand s b =
            total * (f.tz.get z - mean) / 10000 * 1000 /
              max 1000 (max 1 ((zoneEnd s z - m + f.lnom - 1) / f.lnom) * c)))

/-- In every set of grants that an expiry stores, no grant exceeds its zone's rating, the grant of a zone that
is not ACTIVE is 0, the grants add up to at most the budget, and each setpoint is the grant in units of
100 W. In RUN, the zone demands are the records' demands spread by overlap, capped by the rating and by nine
eighths of what a zone at its LIMIT last delivered; they are granted whole or scaled alike by the budget;
GUARDED names exactly the records that the surface guard holds back (R66, R71 to R74). -/
def Obligations.GrantsFollowDemands : Prop :=
  (∀ s : State, s.dsp.timerExpiry ≤ s.ms → ∃ t, exec .dispatchTimerExpiry s = .next t ∧
     t.dsp.grants.total ≤ s.pst.budget ∧
     ∀ z,
       ((s.zones.get z).state ≠ .active → t.dsp.grants.get z = 0) ∧
       t.dsp.grants.get z ≤ (s.zones.get z).rating.getD 0 ∧
       t.dsp.setpoints.get z = min 8000 (t.dsp.grants.get z / 100)) ∧
  ∀ (s s1 : State), s.dsp.timerExpiry ≤ s.ms → s.dsp.state = .run → s1 = inferIdle (applyCadence s) →
    ∃ t d, exec .dispatchTimerExpiry s = .next t ∧
      (∀ z,
        let raw := (s.trk.row.map fun b =>
          recordDemand s1 b * overlap s z b / b.length).sum
        (s.zones.get z).state = .active →
          PerZone.get d z =
            if (s.zones.get z).lastStatus = some .limit then
              min (min raw ((s.zones.get z).rating.getD 0)) ((s.zones.get z).lastMean * 100 * 9 / 8)
            else min raw ((s.zones.get z).rating.getD 0)) ∧
      (∀ z, (s.zones.get z).state ≠ .active → PerZone.get d z = 0) ∧
      t.dsp.totalDemand = d.total ∧
      (∀ z, t.dsp.grants.get z =
        if d.total ≤ s.pst.budget then PerZone.get d z
        else PerZone.get d z * s.pst.budget / d.total) ∧
      t.trk =
        { s.trk with
          row := s.trk.row.map fun b =>
            { b with
              marks :=
                { b.marks with
                  guarded :=
                    decide
                      (b.recipe ≠ 0 ∧ b.marks.overheated = false ∧ b.marks.overdwell = false ∧
                        (recipeFields s b.recipe).tsMax ≤ b.ts + 150) } }
          gate := s.trk.gate.map fun g =>
            { g with billet := { g.billet with marks := { g.billet.marks with guarded := false } } } }

/-- PERMIT_LOST stops the dispatcher in every state, raises PERMIT_OFF, and makes an expiry at once that
hands zeros and starts the timer again; PERMIT_PRESENT changes the level alone (R56). -/
def Obligations.PermitLostStops : Prop :=
  ∀ s : State,
    (s.permit = true →
      ∃ u t, Raises Notice.permitOff.bit s.ntc u.ntc ∧ u.permit = false ∧
        u.dsp =
          { s.dsp with
            state := .stopped, timerExpiry := s.ms, grants := .const 0, setpoints := .const 0
            totalDemand := 0 } ∧
        ((u.withPermit s.permit).withDsp s.dsp).withNtc s.ntc = s ∧
        exec .permitLost s = .next t ∧ exec .dispatchTimerExpiry u = .next t ∧
        t.dsp.state = .stopped ∧ t.dsp.grants = .const 0 ∧ t.dsp.setpoints = .const 0 ∧
        t.dsp.timerExpiry = s.ms + s.pst.period) ∧
    (s.permit = false → exec .permitLost s = .next s) ∧
    ∃ t, exec .permitPresent s = .next t ∧ t.permit = true ∧ t.withPermit s.permit = s

/-! ### The inverter link (chapter 4) -/

/-- ZONE RESTORE returns a zone in FAULT to ACTIVE with miss count 0, changes nothing for another zone,
and gives the zone's number, state, miss count and last status; a number outside 1 to 8 is refused RANGE
(R88). That the last status counts "none" first, so that OK is 1, and that "none" itself is all ones, is the
model's reading (log 19). -/
def Obligations.ZoneRestoreEndsFault : Prop :=
  ∀ (n : Nat) (s : State),
    (n = 0 ∨ 8 < n →
      Answers (.zoneRestore .supervisor (.items n)) .supervisor s s
        { status := .range, payload := [] }) ∧
    ∀ z : ZoneNo, z.number = n →
      ∃ r, r =
          (if (s.zones.get z).state = .fault then
            { s.zones.get z with state := .active, missCount := 0 }
           else s.zones.get z) ∧
        Answers (.zoneRestore .supervisor (.items n)) .supervisor s (s.withZones (s.zones.set z r))
          { status := .ok
            payload :=
              leBytes 1 n ++ leBytes 1 r.state.code ++ leBytes 1 r.missCount ++
                match r.lastStatus with
                | none => ([0xFF] : List Byte)
                | some status => leBytes 1 status.code }

/-- The outcome of the poll of a channel before 8. A good reply fills its entry, sets its ack and its zone
record, raises ZONE_FAULT when an ACTIVE zone reports FAULT and MAINS_LOW when it reports that. The close of
the window, and a reply found bad on its check byte, are a miss: the entry is VOID, the ack is "not
received", the miss count rises to 3 at most, and the third miss makes an ACTIVE zone FAULT with ZONE_FAULT.
Then the next channel is polled with its setpoint, 0 unless its zone is ACTIVE (R81 to R84). A reply with a
wrong start byte, a wrong channel or a status above 3 is no good reply: the poll stays outstanding until its
window closes, and every further reply to it is discarded as stray. A checked reply of another channel that
has replied to its own last poll is that channel's second, and is discarded as stray with the poll untouched.
That a reply that is not good waits for the close of the window, and that a second reply is known by its
channel number, is the model's reading (R82; log 10); that a channel whose window closes on a spoiled poll
counts as having replied, and one whose window closes without a reply does not, is its choice (log 37). -/
def Obligations.PollOutcomes : Prop :=
  (∀ (s : State) (rd : Round) (z next : ZoneNo) (r : InverterFrame) (status : ChannelStatus),
     s.ilc.round = some rd → rd.poll.channel = z → next.number = z.number + 1 →
     rd.poll.spoiled = false → r.start = 0x72 → r.channel = z.number → statusOf r.status = some status →
     byteSum
         (leBytes 1 r.channel ++ leBytes 1 r.status ++ leBytes 3 r.energy ++ leBytes 2 r.meanPower ++
           leBytes 1 r.check) = 0 →
     ∃ t, exec (.inverterReply r) s = .next t ∧
       t.ilc =
         { round :=
             some
               { carried := rd.carried
                 poll :=
                   { channel := next
                     setpoint :=
                       if (s.zones.get next).state = .active then rd.carried.setpoints.get next
                       else 0
                     ack := s.ilc.ack.get next
                     spoiled := false } }
           waiting := s.ilc.waiting
           entries := s.ilc.entries.set z (some (.energy r.energy))
           ack := s.ilc.ack.set z true
           replied := s.ilc.replied.set z true } ∧
       t.zones =
         s.zones.set z
           { s.zones.get z with
             missCount := 0, lastStatus := some status, lastMean := r.meanPower
             state :=
               if status = .fault ∧ (s.zones.get z).state = .active then .fault
               else (s.zones.get z).state } ∧
       Raises
         (kindIf (status = .fault ∧ (s.zones.get z).state = .active) .zoneFault |||
           kindIf (status = .mainsLow) .mainsLow) s.ntc t.ntc ∧
       ((t.withIlc s.ilc).withZones s.zones).withNtc s.ntc = s) ∧
  (∀ (s : State) (rd : Round) (r : InverterFrame), s.ilc.round = some rd →
    (rd.poll.spoiled = true → exec (.inverterReply r) s = .next s) ∧
    let checkSum :=
      byteSum
        (leBytes 1 r.channel ++ leBytes 1 r.status ++ leBytes 3 r.energy ++ leBytes 2 r.meanPower ++
          leBytes 1 r.check)
    (∀ y : ZoneNo, r.start = 0x72 → checkSum = 0 → y ≠ rd.poll.channel → r.channel = y.number →
      s.ilc.replied.get y = true → exec (.inverterReply r) s = .next s) ∧
    (rd.poll.spoiled = false →
      r.start ≠ 0x72 ∨
        (checkSum = 0 ∧
          ((r.channel ≠ rd.poll.channel.number ∧
              ∀ y : ZoneNo, r.channel = y.number → s.ilc.replied.get y = false) ∨
            (r.channel = rd.poll.channel.number ∧ 3 < r.status))) →
      exec (.inverterReply r) s =
        .next
          (s.withIlc
            { s.ilc with round := some { rd with poll := { rd.poll with spoiled := true } } }))) ∧
  ∀ (s : State) (rd : Round) (z next : ZoneNo) (i : Instr) (replied : Bool),
    s.ilc.round = some rd → rd.poll.channel = z → next.number = z.number + 1 →
    (i = .replyWindowClose ∧ replied = rd.poll.spoiled ∨
      ∃ r, i = .inverterReply r ∧ replied = true ∧ rd.poll.spoiled = false ∧ r.start = 0x72 ∧
        byteSum
            (leBytes 1 r.channel ++ leBytes 1 r.status ++ leBytes 3 r.energy ++
              leBytes 2 r.meanPower ++ leBytes 1 r.check) ≠ 0) →
    ∃ t, exec i s = .next t ∧
      t.ilc =
        { round :=
            some
              { carried := rd.carried
                poll :=
                  { channel := next
                    setpoint :=
                      if (s.zones.get next).state = .active then rd.carried.setpoints.get next
                      else 0
                    ack := s.ilc.ack.get next
                    spoiled := false } }
          waiting := s.ilc.waiting
          entries := s.ilc.entries.set z (some .void)
          ack := s.ilc.ack.set z false
          replied := s.ilc.replied.set z replied } ∧
      t.zones =
        s.zones.set z
          { s.zones.get z with
            missCount := min 3 ((s.zones.get z).missCount + 1)
            state :=
              if 3 ≤ (s.zones.get z).missCount + 1 ∧ (s.zones.get z).state = .active then .fault
              else (s.zones.get z).state } ∧
      Raises
        (kindIf (3 ≤ (s.zones.get z).missCount + 1 ∧ (s.zones.get z).state = .active) .zoneFault)
        s.ntc t.ntc ∧
      ((t.withIlc s.ilc).withZones s.zones).withNtc s.ntc = s

/-- The outcome of channel 8's poll, a miss or a good reply, fills the last entry, sets the ack, the zone
record and the notices of channel 8 as for any other, and completes the round: the eight entries are handed
to EST as one round record, and a waiting set begins the next round with its grants the last grants (R80,
R83 to R85); that the record waits at the end of a queue of EST is the model's reading (log 8), and that
channel 8 counts as having replied when its window closes on a spoiled poll is its choice (log 37). With no
poll outstanding, a reply and the close of a window change nothing (R82). -/
def Obligations.RoundCompletes : Prop :=
  (∀ (s : State) (rd : Round) (i : Instr) (entry : Entry) (ack : Bool) (zone : ZoneRecord)
     (replied : Bool) (kinds : KindSet), s.ilc.round = some rd → rd.poll.channel = .z8 →
     (∀ z, z ≠ .z8 → s.ilc.entries.get z ≠ none) →
     let z8 := s.zones.z8
     let checkSum := fun (r : InverterFrame) =>
       byteSum
         (leBytes 1 r.channel ++ leBytes 1 r.status ++ leBytes 3 r.energy ++ leBytes 2 r.meanPower ++
           leBytes 1 r.check)
     (((i = .replyWindowClose ∧ replied = rd.poll.spoiled ∨
           ∃ r, i = .inverterReply r ∧ replied = true ∧ rd.poll.spoiled = false ∧ r.start = 0x72 ∧
             checkSum r ≠ 0) ∧
         entry = .void ∧ ack = false ∧
         zone =
           { z8 with
             missCount := min 3 (z8.missCount + 1)
             state := if 3 ≤ z8.missCount + 1 ∧ z8.state = .active then .fault else z8.state } ∧
         kinds = kindIf (3 ≤ z8.missCount + 1 ∧ z8.state = .active) .zoneFault) ∨
       (∃ r status, i = .inverterReply r ∧ replied = true ∧ rd.poll.spoiled = false ∧ r.start = 0x72 ∧
         r.channel = 8 ∧ statusOf r.status = some status ∧ checkSum r = 0 ∧
         entry = .energy r.energy ∧ ack = true ∧
         zone =
           { z8 with
             missCount := 0, lastStatus := some status, lastMean := r.meanPower
             state := if status = .fault ∧ z8.state = .active then .fault else z8.state } ∧
         kinds =
           (kindIf (status = .fault ∧ z8.state = .active) .zoneFault |||
             kindIf (status = .mainsLow) .mainsLow))) →
     ∃ t record, exec i s = .next t ∧
       t.est = { s.est with rounds := s.est.rounds ++ [record] } ∧
       (∀ z, z ≠ .z8 → s.ilc.entries.get z = some (PerZone.get record z)) ∧
       PerZone.get record .z8 = entry ∧ t.ilc.waiting = none ∧
       (∀ z, t.ilc.entries.get z = none) ∧ t.ilc.ack = s.ilc.ack.set .z8 ack ∧
       t.ilc.replied = s.ilc.replied.set .z8 replied ∧
       Raises kinds s.ntc t.ntc ∧
       (((t.withEst s.est).withIlc s.ilc).withZones s.zones).withNtc s.ntc = s ∧
       (s.ilc.waiting = none → t.ilc.round = none ∧ t.zones = s.zones.set .z8 zone) ∧
       ∀ d, s.ilc.waiting = some d →
         t.ilc.round =
             some
               { carried := d
                 poll :=
                   { channel := .z1
                     setpoint := if s.zones.z1.state = .active then d.setpoints.z1 else 0
                     ack := s.ilc.ack.z1
                     spoiled := false } } ∧
           ∀ z, t.zones.get z =
             { (s.zones.set .z8 zone).get z with lastGrant := d.grants.get z }) ∧
  ∀ s : State, s.ilc.round = none →
    exec .replyWindowClose s = .next s ∧ ∀ r, exec (.inverterReply r) s = .next s

/-! ### The estimator (chapter 2) -/

/-- The zones lie end to end from 0, and a record's overlap with one is the length of its part inside it; each
share of a zone's energy is the energy times the overlap over the occupied length, floored, and 0 for VOID;
the shares of a zone never add up to more than its energy, and fall short of it by less than the number of
records that overlap the zone (R11, R12, R34, R36). The two-node update: the induced rises to the nearest
integer, halves up, the exchange by conduction and the loss toward zero, and the saturation (R38 to R41). -/
def Obligations.SharesAndTwoNodeUpdate : Prop :=
  (∀ s : State, zoneStart s .z1 = 0 ∧
     ∀ z, zoneEnd s z = zoneStart s z + (s.zones.get z).length ∧
       (∀ next, next.number = z.number + 1 → zoneStart s next = zoneEnd s z) ∧
       ∀ b : Billet,
         (overlap s z b : Int) =
           max 0
             (min ((b.trailing : Int) + b.length) (zoneEnd s z) -
               max (b.trailing : Int) (zoneStart s z))) ∧
  (∀ (s : State) (r : RoundRecord) (z : ZoneNo),
     (r.get z = .void → ∀ b, zoneShare s r b z = 0) ∧
     ∀ e, r.get z = .energy e →
       (∀ b, 0 < (s.trk.row.map (overlap s z)).sum →
         zoneShare s r b z = e * overlap s z b / (s.trk.row.map (overlap s z)).sum) ∧
       (s.trk.row.map fun b => zoneShare s r b z).sum ≤ e ∧
       (0 < (s.trk.row.map (overlap s z)).sum →
         e < (s.trk.row.map fun b => zoneShare s r b z).sum +
           s.trk.row.countP fun b => decide (0 < overlap s z b))) ∧
  ∀ (f : RecipeFields) (len eb dt ts tc : Nat),
    let total := f.cap * len
    let surface := total * f.surf / 256
    let core := total - surface
    let es := eb * f.skin / 256
    ∀ riseS riseC : Nat, 0 < surface → 0 < core →
      (2 * riseS * surface ≤ 2 * (es * 10000) + surface ∧
        2 * (es * 10000) + surface < 2 * (riseS + 1) * surface) →
      (2 * riseC * core ≤ 2 * ((eb - es) * 10000) + core ∧
        2 * ((eb - es) * 10000) + core < 2 * (riseC + 1) * core) →
      let ts1 := ts + riseS
      let tc1 := tc + riseC
      let d := (((ts1 : Int) - tc1) * (min (f.cond * dt) 65536 : Nat)).tdiv 65536
      let ms := (d * core).tdiv total
      let ts2 := (ts1 : Int) - ms
      let tc2 := (tc1 : Int) + (d - ms)
      let ts3 :=
        if 200 < ts2 then
          ts2 - ((ts2 - 200) * (min (f.loss * dt) 65536 : Nat)).tdiv 65536
        else ts2
      (twoNode f len eb dt ts tc).1 ≤ 16000 ∧ (twoNode f len eb dt ts tc).2 ≤ 16000 ∧
      (ts3 < 0 → (twoNode f len eb dt ts tc).1 = 0) ∧
      (0 ≤ ts3 → ts3 ≤ 16000 → ((twoNode f len eb dt ts tc).1 : Int) = ts3) ∧
      (16000 < ts3 → (twoNode f len eb dt ts tc).1 = 16000) ∧
      (tc2 < 0 → (twoNode f len eb dt ts tc).2 = 0) ∧
      (0 ≤ tc2 → tc2 ≤ 16000 → ((twoNode f len eb dt ts tc).2 : Int) = tc2) ∧
      (16000 < tc2 → (twoNode f len eb dt ts tc).2 = 16000)

/-- ROUND_RECORD: Δt runs from the last record, or is the dispatch period for the first; every record in the
row and on the gate is updated with its energy, a row record that overlaps a VOID zone becomes UNTRACKED, the
marks are set by the limits of the recipe, and the notices follow. A verdict changes only for a READY or UNDER
front, with VERDICT, and with RES_LOST when a reserved front leaves READY; nothing else changes (R32 to R37,
R42 to R46, R50, R51, R105, R106, R118). That a handed record leaves the head of a queue of EST (log 8), and
that the row acts on the entries it carries also when none was handed (log 9), is the model's reading. -/
def Obligations.RoundRecordUpdates : Prop :=
  ∀ (r : RoundRecord) (s : State) (dt : Nat),
    (s.est.lastRound = none → dt = s.pst.period) →
    (∀ t0, s.est.lastRound = some t0 → dt = max 1 (min (s.ms - t0) 1000)) →
    let updated := fun (b : Billet) (eb : Nat) =>
      let f := recipeFields s b.recipe
      let w := twoNode f b.length eb dt b.ts b.tc
      { b with
        energy := min 4294967295 (b.energy + eb), ts := w.1, tc := w.2
        marks :=
          { b.marks with
            overheated := decide (b.marks.overheated = true ∨ b.recipe ≠ 0 ∧ f.tsMax < w.1)
            overdwell :=
              decide (b.marks.overdwell = true ∨ b.recipe ≠ 0 ∧ f.maxDwell < s.secs - b.entryTime) } }
    let inVoid := fun (b : Billet) => ∃ z, r.get z = .void ∧ 0 < overlap s z b
    ∃ t, exec (.roundRecord r) s = .next t ∧
      t.est =
        { s.est with
          lastRound := some s.ms
          rounds := if s.est.rounds.head? = some r then s.est.rounds.tail else s.est.rounds } ∧
      t.trk.gate.length = s.trk.gate.length ∧
      (∀ (k : Nat) (g : GateBillet), s.trk.gate[k]? = some g →
        ∃ h, t.trk.gate[k]? = some h ∧
          { h with verdict := g.verdict } = { g with billet := updated g.billet 0 } ∧
          (h.verdict ≠ g.verdict → k = 0 ∧ (g.verdict = .ready ∨ g.verdict = .under))) ∧
      t.trk.row.length = s.trk.row.length ∧
      (∀ (k : Nat) (b : Billet), s.trk.row[k]? = some b →
        ∃ c, t.trk.row[k]? = some c ∧
          { c with estimate := b.estimate } =
            updated b (ZoneNo.all.map fun z => zoneShare s r b z).sum ∧
          (inVoid b → c.estimate = .untracked) ∧ (¬inVoid b → c.estimate = b.estimate)) ∧
      (∃ kinds, Raises kinds s.ntc t.ntc ∧
        (kinds &&& Notice.untracked.bit ≠ 0 ↔
          ∃ b ∈ s.trk.row, b.estimate = .tracked ∧ inVoid b) ∧
        (kinds &&& Notice.idlePower.bit ≠ 0 ↔
          ∃ z e, r.get z = .energy e ∧ 0 < e ∧ ∀ b ∈ s.trk.row, overlap s z b = 0) ∧
        (kinds &&& Notice.overheat.bit ≠ 0 ↔
          (∃ (k : Nat) (b c : Billet), s.trk.row[k]? = some b ∧ t.trk.row[k]? = some c ∧
            b.marks.overheated = false ∧ c.marks.overheated = true) ∨
          ∃ (k : Nat) (g h : GateBillet), s.trk.gate[k]? = some g ∧ t.trk.gate[k]? = some h ∧
            g.billet.marks.overheated = false ∧ h.billet.marks.overheated = true) ∧
        (kinds &&& Notice.verdict.bit ≠ 0 ↔
          ∃ g h, s.trk.gate.head? = some g ∧ t.trk.gate.head? = some h ∧ h.verdict ≠ g.verdict) ∧
        (kinds &&& Notice.resLost.bit ≠ 0 ↔
          ∃ g h, s.trk.gate.head? = some g ∧ t.trk.gate.head? = some h ∧
            LosesReservation g h.verdict s) ∧
        kinds &&&
            ~~~(Notice.untracked.bit ||| Notice.idlePower.bit ||| Notice.overheat.bit |||
              Notice.verdict.bit ||| Notice.resLost.bit) = 0) ∧
      (((t.withTrk s.trk).withEst s.est).withNtc s.ntc).withPhu s.phu = s ∧
      { t.trk with row := s.trk.row, gate := s.trk.gate } = s.trk ∧
      (s.trk.gate = [] → t.phu = s.phu) ∧
      ∀ g h, s.trk.gate.head? = some g → t.trk.gate.head? = some h →
        t.phu = if LosesReservation g h.verdict s then none else s.phu

/-- After a round record a READY or UNDER front, with its record updated as RoundRecordUpdates says, holds the
verdict that the lines of R102 give it now; an unchanged verdict raises nothing, a change raises VERDICT, and
a front that leaves READY loses its reservation with RES_LOST (R46, R105, R106, R118). That the row acts on
the entries it carries also when none was handed is the model's reading (log 9). -/
def Obligations.RoundReevaluatesFront : Prop :=
  ∀ (r : RoundRecord) (s : State) (g : GateBillet) (rest : List GateBillet),
    s.trk.gate = g :: rest → (g.verdict = .ready ∨ g.verdict = .under) →
    ∃ t h others, exec (.roundRecord r) s = .next t ∧ t.trk.gate = h :: others ∧
      others.map (·.verdict) = rest.map (·.verdict) ∧
      h.verdict = evaluate (recipeFields s g.billet.recipe) h.billet s.evu.exitM ∧
      (∃ kinds, Raises kinds s.ntc t.ntc ∧
        kinds &&& (Notice.verdict.bit ||| Notice.resLost.bit) = verdictKinds g h.verdict s) ∧
      t.phu = (if LosesReservation g h.verdict s then none else s.phu) ∧
      (((t.withTrk s.trk).withEst s.est).withNtc s.ntc).withPhu s.phu = s

/-- A correction moves the surface of the record with the tag toward a valid sample by the trust of its
source, leaves it for VOID, and becomes the last measurement; without such a record it is dropped. A
correction from source A, of any record but the gate front, or of a front in SETTLING changes nothing else.
One from source B of the front is followed by EVU: an AWAITING front is decided with VERDICT; in DECIDED a
valid sample becomes the exit measurement, and a READY or UNDER front then holds the verdict that the lines
of R102 give it, with VERDICT when it changes and RES_LOST when a reserved front leaves READY, while a final
verdict stays (R47, R48, R99, R101, R105, R106, R118). That the row is taken from the head of a queue of EST
(log 8), and is followed by the decision of EVU (log 9), is the model's reading. -/
def Obligations.CorrectionMovesSurface : Prop :=
  ∀ (c : Correction) (s : State),
    let trusted := match c.source with
      | .a => s.pst.trustA
      | .b => s.pst.trustB
    let corrected := fun (b : Billet) =>
      if b.tag = c.tag then
        { b with
          measurement := some { source := c.source, value := c.sample }
          ts :=
            match c.sample with
            | none => b.ts
            | some m =>
              (max 0 (min ((b.ts : Int) + ((((m : Int) - b.ts) * trusted).tdiv 256)) 16000)).toNat }
      else b
    let records : Track :=
      { s.trk with
        row := s.trk.row.map corrected
        gate := s.trk.gate.map fun g => { g with billet := corrected g.billet } }
    let taken : Estimator :=
      { s.est with
        corrections :=
          if s.est.corrections.head? = some c then s.est.corrections.tail else s.est.corrections }
    (c.source = .a ∨ (∀ g, s.trk.gate.head? = some g → g.billet.tag ≠ c.tag) ∨
        s.evu.phase = .noFront ∨ s.evu.phase = .settling →
      exec (.measurementCorrection c) s = .next ((s.withTrk records).withEst taken)) ∧
    ∀ g rest, c.source = .b → s.trk.gate = g :: rest → g.billet.tag = c.tag →
      let b := corrected g.billet
      let exitM := c.sample.or s.evu.exitM
      let now := evaluate (recipeFields s g.billet.recipe) b exitM
      let front := fun (v : Verdict) =>
        { records with
          gate :=
            { g with billet := b, verdict := v } ::
              rest.map fun g => { g with billet := corrected g.billet } }
      (s.evu.phase = .awaiting →
        ∃ t, exec (.measurementCorrection c) s = .next t ∧ t.trk = front now ∧
          t.evu = { phase := .decided, settle := none, wait := none, exitM := exitM } ∧
          Raises Notice.verdict.bit s.ntc t.ntc ∧ t.est = taken ∧
          (((t.withTrk s.trk).withEvu s.evu).withNtc s.ntc).withEst s.est = s) ∧
      (s.evu.phase = .decided →
        ∃ t verdict, exec (.measurementCorrection c) s = .next t ∧
          verdict =
            (if c.sample ≠ none ∧ (g.verdict = .ready ∨ g.verdict = .under) then now
             else g.verdict) ∧
          t.trk = front verdict ∧ t.evu = { s.evu with exitM := exitM } ∧
          Raises (verdictKinds g verdict s) s.ntc t.ntc ∧
          t.phu = (if LosesReservation g verdict s then none else s.phu) ∧ t.est = taken ∧
          ((((t.withTrk s.trk).withEvu s.evu).withNtc s.ntc).withPhu s.phu).withEst s.est = s)

/-! ### Pyrometers and the exit verdict (chapter 5) -/

/-- Four bytes 0xC3, low byte, high byte and check that sum to 0 are a sample, whether they arrive together or
the last of them at an input that holds those before, and a frame that does not sum to 0 only returns the
input to hunting. A sample of the row pyrometer is judged and stored; unless the track is PUSHING, the row
record that covers X_A is handed to EST for correction, and nothing else changes (R92, R93, R95); that the
correction waits at the end of a queue of EST (log 8), and that SAMPLE_FRAME_START is the arrival of one byte
0xC3 (log 13), is the model's reading. A hunting input discards every
byte but 0xC3, which begins a frame; a timeout and a byte with a line fault return the input to hunting and
change nothing else (R92). -/
def Obligations.PyrometerInputs : Prop :=
  (∀ (lo hi check : Byte) (rest : List Byte) (i : Instr) (s : State),
     s.pya.frame ++ rest = [0xC3, lo, hi, check] → rest ≠ [] →
     (i = .pyrometerSample .a rest ∨ (i = .sampleFrameStart .a ∧ rest = [0xC3])) →
     byteSum [0xC3, lo, hi, check] = 0 →
     let v := lo.toNat + 256 * hi.toNat
     ∃ t, exec i s = .next t ∧
       t.pya =
         { frame := []
           lastSample := some { value := v, valid := decide (3000 ≤ v ∧ v ≤ 14000) } } ∧
       (t.withPya s.pya).withEst s.est = s ∧
       (s.trk.state = .pushing ∨
           (∀ b ∈ s.trk.row, ¬(b.trailing ≤ s.pst.positionA ∧
             s.pst.positionA < b.trailing + b.length)) → t.est = s.est) ∧
       ∀ b before after, s.trk.state ≠ .pushing → s.trk.row = before ++ b :: after →
         (∀ c ∈ before, ¬(c.trailing ≤ s.pst.positionA ∧
           s.pst.positionA < c.trailing + c.length)) →
         b.trailing ≤ s.pst.positionA → s.pst.positionA < b.trailing + b.length →
         t.est =
           { s.est with
             corrections :=
               s.est.corrections ++
                 [{ tag := b.tag, source := .a
                    sample := if 3000 ≤ v ∧ v ≤ 14000 then some v else none }] }) ∧
  ∀ (src : Pyro) (s : State),
    let withFrame := fun (bytes : List Byte) =>
      setPyro src { pyroInput s src with frame := bytes } s
    ((pyroInput s src).frame = [] →
      exec (.sampleFrameStart src) s = .next (withFrame [0xC3]) ∧
      ∀ b : Byte, b ≠ 0xC3 → exec (.pyrometerSample src [b]) s = .next s) ∧
    (∀ (lo hi check : Byte) (rest : List Byte) (i : Instr),
      (pyroInput s src).frame ++ rest = [0xC3, lo, hi, check] → rest ≠ [] →
      (i = .pyrometerSample src rest ∨ (i = .sampleFrameStart src ∧ rest = [0xC3])) →
      byteSum [0xC3, lo, hi, check] ≠ 0 → exec i s = .next (withFrame [])) ∧
    (∀ bytes, bytes ≠ [] → bytes.length < 3 → (pyroInput s src).frame = bytes →
      (∀ b : Byte, exec (.pyrometerSample src [b]) s = .next (withFrame (bytes ++ [b]))) ∧
      exec (.sampleFrameStart src) s = .next (withFrame (bytes ++ [0xC3]))) ∧
    exec (.pyroByteTimeout src) s = .next (withFrame []) ∧
    exec (.droppedFrame src) s = .next (withFrame [])

/-- The verdict by the first line of R102 that holds, with the window test of R103 for a TRACKED record
and the measured band of R104 for an UNTRACKED one. -/
def Obligations.VerdictByFirstLine : Prop :=
  ∀ (f : RecipeFields) (b : Billet) (exitM : Option Nat),
    (b.recipe = 0 → evaluate f b exitM = .spacer) ∧
    (b.recipe ≠ 0 →
      (b.marks.overheated = true → evaluate f b exitM = .over) ∧
      (b.marks.overheated = false → b.marks.overdwell = true → evaluate f b exitM = .overdwell) ∧
      (b.marks.overheated = false → b.marks.overdwell = false →
        (b.estimate = .untracked → f.acceptMeasured = 0 ∨ exitM = none →
          evaluate f b exitM = .suspect) ∧
        (∀ m, b.estimate = .untracked → f.acceptMeasured ≠ 0 → exitM = some m →
          (evaluate f b exitM = .ready ↔ f.tsLo ≤ m ∧ m ≤ f.tsHi) ∧
          (m < f.tsLo → evaluate f b exitM = .under) ∧
          (f.tsLo ≤ m → f.tsHi < m → evaluate f b exitM = .over)) ∧
        (b.estimate = .tracked →
          let hot := match exitM with
            | none => b.ts
            | some m => max m b.ts
          (f.tsHi < hot → evaluate f b exitM = .over) ∧
          (hot ≤ f.tsHi → b.ts < f.tsLo ∨ b.tc < f.tcMin → evaluate f b exitM = .under) ∧
          (hot ≤ f.tsHi → f.tsLo ≤ b.ts → f.tcMin ≤ b.tc → evaluate f b exitM = .ready))))

/-- An exit sample, its four bytes together or the last of them at an input that holds those before, is taken by
the front phase. In AWAITING it corrects the front, becomes the exit measurement when it is valid, and
decides the first verdict with VERDICT; in NONE and SETTLING it is stored only. In DECIDED it corrects the
front whatever its verdict; a final verdict stays, and after a valid sample a READY or UNDER front holds the
verdict that the lines of R102 give it with the new exit measurement, with VERDICT when it changes and
RES_LOST when a reserved front leaves READY (R92, R93, R99, R101, R105, R106, R118). -/
def Obligations.ExitSamples : Prop :=
  ∀ (lo hi check : Byte) (rest : List Byte) (arrives : Instr) (s : State),
    s.pyb.frame ++ rest = [0xC3, lo, hi, check] → rest ≠ [] →
    (arrives = .pyrometerSample .b rest ∨ (arrives = .sampleFrameStart .b ∧ rest = [0xC3])) →
    byteSum [0xC3, lo, hi, check] = 0 →
    let v := lo.toNat + 256 * hi.toNat
    let sample := if 3000 ≤ v ∧ v ≤ 14000 then some v else none
    let exitM := sample.or s.evu.exitM
    let stored : PyroInput :=
      { frame := []
        lastSample := some { value := v, valid := decide (3000 ≤ v ∧ v ≤ 14000) } }
    let corrected := fun (b : Billet) =>
      { b with
        measurement := some { source := .b, value := sample }
        ts :=
          match sample with
          | none => b.ts
          | some m =>
            (max 0 (min ((b.ts : Int) + (((m : Int) - b.ts) * s.pst.trustB).tdiv 256) 16000)).toNat }
    (s.evu.phase = .noFront ∨ s.evu.phase = .settling →
      exec arrives s = .next (s.withPyb stored)) ∧
    ∀ g rest, s.trk.gate = g :: rest →
      let b := corrected g.billet
      let now := evaluate (recipeFields s g.billet.recipe) b exitM
      (s.evu.phase = .awaiting →
        ∃ t, exec arrives s = .next t ∧
          t.trk = { s.trk with gate := { g with billet := b, verdict := now } :: rest } ∧
          t.evu = { phase := .decided, settle := none, wait := none, exitM := exitM } ∧
          Raises Notice.verdict.bit s.ntc t.ntc ∧ t.pyb = stored ∧
          (((t.withTrk s.trk).withEvu s.evu).withNtc s.ntc).withPyb s.pyb = s) ∧
      (s.evu.phase = .decided →
        ∃ t verdict, exec arrives s = .next t ∧
          verdict =
            (if sample ≠ none ∧ (g.verdict = .ready ∨ g.verdict = .under) then now
             else g.verdict) ∧
          t.trk = { s.trk with gate := { g with billet := b, verdict := verdict } :: rest } ∧
          t.evu = { s.evu with exitM := exitM } ∧
          Raises (verdictKinds g verdict s) s.ntc t.ntc ∧
          t.phu = (if LosesReservation g verdict s then none else s.phu) ∧ t.pyb = stored ∧
          ((((t.withTrk s.trk).withEvu s.evu).withNtc s.ntc).withPhu s.phu).withPyb s.pyb = s)

/-- The settle expiry makes a SETTLING front AWAITING with the wait timer running on; the wait expiry
decides an AWAITING front by its estimate and its exit measurement as they stand, without a sample, and
raises VERDICT (R99 to R101); StepKeepsGateTimed says that the exit measurement is then VOID (R100). A timer
that has been started afresh does not expire before its own time, 300 or 1000 ms after the gate-front time,
whatever front it timed before (R98, R107, R122; log 3). -/
def Obligations.FrontTimersExpire : Prop :=
  ∀ s : State,
    (∀ expiry, s.evu.settle = some expiry →
      (expiry ≤ s.ms → s.evu.phase = .settling →
        exec .settleTimerExpiry s =
          .next (s.withEvu { s.evu with phase := .awaiting, settle := none })) ∧
      (s.ms < expiry → exec .settleTimerExpiry s = .next s)) ∧
    (s.evu.settle = none → exec .settleTimerExpiry s = .next s) ∧
    (s.evu.wait = none → exec .waitTimerExpiry s = .next s) ∧
    ∀ expiry, s.evu.wait = some expiry →
      (s.ms < expiry → exec .waitTimerExpiry s = .next s) ∧
      ∀ g rest, expiry ≤ s.ms → s.evu.phase = .awaiting → s.trk.gate = g :: rest →
        ∃ t, exec .waitTimerExpiry s = .next t ∧
          t.trk =
            { s.trk with
              gate :=
                { g with
                  verdict := evaluate (recipeFields s g.billet.recipe) g.billet s.evu.exitM } ::
                  rest } ∧
          t.evu = { phase := .decided, settle := none, wait := none, exitM := s.evu.exitM } ∧
          Raises Notice.verdict.bit s.ntc t.ntc ∧
          ((t.withTrk s.trk).withEvu s.evu).withNtc s.ntc = s

/-! ### Lots (chapter 8) -/

/-- LOT OPEN of a VALID recipe behind at most one lot, RUN_OUT, appends a LOADING lot with the next number and
a count fitted to 1 to 9999; otherwise it is refused with the first check that fails, without change (R136).
LOT ADJUST and LOT ABORT act on the newest lot's to-load, saturated into 0 to 9999 or set to 0, give the
to-load before, and test for closing; a step that is not allowed is refused BAD_STEP, and an empty queue
NO_LOT, without change (R135, R137, R138). That BAD_STEP comes before NO_LOT is the model's reading of R137
(log 23), and so is that LOT ADJUST acts on the lot that is left after the newest of two has closed
(log 36). -/
def Obligations.LotOpenAdjustAndAbort : Prop :=
  (∀ (x : LotOpenArgs) (s : State),
     let refused := fun (status : Status) =>
       Answers (.lotOpen .supervisor (.items x)) .supervisor s s { status := status, payload := [] }
     (x.recipe = 0 ∨ 15 < x.recipe → refused .range) ∧
     (1 ≤ x.recipe → x.recipe ≤ 15 →
       (recipeValidity s x.recipe ≠ 0 → refused .recipeInvalid) ∧
       (recipeValidity s x.recipe = 0 →
         (2 ≤ s.lot.queue.length → refused .lotQueueFull) ∧
         (∀ l, s.lot.queue = [l] → 0 < l.toLoad → refused .busy) ∧
         (s.lot.queue.length < 2 → (∀ l ∈ s.lot.queue, l.toLoad = 0) →
           let count := if x.count = 0 then 1 else if 9999 < x.count then 9999 else x.count
           Answers (.lotOpen .supervisor (.items x)) .supervisor s
             (s.withLot
               { s.lot with
                 queue :=
                   s.lot.queue ++
                     [{ number := s.lot.nextNumber, recipe := x.recipe, toLoad := count, loaded := 0,
                        forged := 0, rejected := 0, lost := 0 }]
                 nextNumber := if 255 ≤ s.lot.nextNumber then 1 else s.lot.nextNumber + 1 })
             { status := if count = x.count then .ok else .okClamped
               payload :=
                 leBytes 1 s.lot.nextNumber ++ leBytes 1 x.recipe ++ leBytes 2 count })))) ∧
  ∀ (st : Station) (step : BitVec 8) (s : State), st = .loader ∨ st = .supervisor →
    let allowed := step.toInt ∈ [-16, -8, -4, -1, 1, 4, 8, 16]
    (¬allowed →
      Answers (.lotAdjust st (.items step)) st s s { status := .badStep, payload := [] }) ∧
    (s.lot.queue = [] →
      (allowed → Answers (.lotAdjust st (.items step)) st s s { status := .noLot, payload := [] }) ∧
      Answers (.lotAbort .supervisor (.items ())) .supervisor s s
        { status := .noLot, payload := [] }) ∧
    ∀ l older, s.lot.queue = older ++ [l] →
      let after := fun (toLoad : Nat) (u : State) =>
        u.lot = testedLots s.trk { s.lot with queue := older ++ [{ l with toLoad := toLoad }] } ∧
        Raises
          (kindIf (endedLots s.trk (older ++ [{ l with toLoad := toLoad }]) ≠ []) .lotClosed)
          s.ntc u.ntc ∧
        (u.withLot s.lot).withNtc s.ntc = s
      (allowed →
        ∃ u, after (max 0 (min ((l.toLoad : Int) + step.toInt) 9999)).toNat u ∧
          Answers (.lotAdjust st (.items step)) st s u
            { status := .ok, payload := leBytes 1 l.number ++ leBytes 2 l.toLoad }) ∧
      ∃ u, after 0 u ∧
        Answers (.lotAbort .supervisor (.items ())) .supervisor s u
          { status := .ok, payload := leBytes 1 l.number ++ leBytes 2 l.toLoad }

/-- LOT STATUS changes nothing and gives the lots of the queue, oldest first, the last-closed record, the
next number, the spacer count, the last recipe and the spacers still needed (R142). The layout of an absent
last-closed record (log 18), and that the indicator of the pending push is 1 when set (log 15), are the
model's reading. -/
def Obligations.LotStatusReports : Prop :=
  ∀ (st : Station) (s : State), NoResetDue st s →
    ∃ needed : Nat,
      (∀ l, s.lot.queue.getLast? = some l →
        (s.lot.lastRecipe = none ∨ s.lot.lastRecipe = some l.recipe → needed = 0) ∧
        ∀ r, s.lot.lastRecipe = some r → r ≠ l.recipe →
          needed =
            max (recipeFields s l.recipe).spacers (recipeFields s r).spacers - s.lot.spacers) ∧
      (s.lot.queue = [] → needed = 0) ∧
      Answers (.lotStatus st (.items ())) st s s
        { status := .ok
          payload :=
            (s.lot.queue.map fun l =>
                leBytes 1 l.number ++ leBytes 1 l.recipe ++ [if l.toLoad = 0 then 1 else 0] ++
                  leBytes 2 l.toLoad ++ leBytes 2 l.loaded ++ leBytes 2 l.forged ++
                  leBytes 2 l.rejected ++ leBytes 2 l.lost ++
                  leBytes 1 ((billets s).countP fun b => decide (b.lot = l.number)) ++
                  [if s.trk.push.any (fun p => decide (p.lot = l.number)) = true then 1
                   else 0]).flatten ++
              (match s.lot.lastClosed with
               | none => (List.replicate 12 0xFF : List Byte)
               | some l =>
                 leBytes 1 l.number ++ leBytes 1 l.recipe ++ leBytes 2 l.toLoad ++
                   leBytes 2 l.loaded ++ leBytes 2 l.forged ++ leBytes 2 l.rejected ++
                   leBytes 2 l.lost) ++
              leBytes 1 s.lot.nextNumber ++ leBytes 1 s.lot.spacers ++
              (match s.lot.lastRecipe with
               | none => ([0xFF] : List Byte)
               | some r => leBytes 1 r) ++
              leBytes 1 needed }

/-! ### Encoding -/

/-- The frame by which a station sends a well-formed command is decoded to that command, with every item
at every value that its bytes admit (R132, R150). That a PUSH REQUEST of LEN 9 carries 0xFFFF as the number
65535 is the model's choice (log 33). -/
def Obligations.RequestRoundTrip : Prop :=
  ∀ (i : Instr) (st : Station) (cmd : Byte) (payload : List Byte), i.wf = true →
    i.station = some st → encodeRequest i = some (cmd, payload) →
    payload.length + 2 ∈ commandLens cmd.toNat ∧ decodeRequest st cmd payload = i

/-! ### Relations that every step keeps -/

/-- Every step keeps the pending push in its place by the track state, the tags distinct, the values of the
records in their ranges, the row contiguous below R, and the row and the gate within their capacities with
the pending push fitting (R2, R4, R5, R7, R8, R11, R15, R17, R41). -/
def Obligations.StepKeepsTrack : Prop :=
  ∀ s t : State, step s = .next t →
    (PushMatchesState s → PushMatchesState t) ∧ (TagsDistinct s → TagsDistinct t) ∧
      (RecordsInRange s → RecordsInRange t) ∧ (PositionsKept s → PositionsKept t) ∧
      (CapacityKept s → CapacityKept t)

/-- Every step keeps the front phase, its timers, the exit measurement, the verdicts of the gate and the
reservation in agreement: the timers run for 300 and 1000 ms from the gate-front time, the exit measurement
is VOID until the front is decided, and a reservation names the READY front (R97 to R101, R110). -/
def Obligations.StepKeepsGateTimed : Prop :=
  ∀ s t : State, step s = .next t → GateTimed s → GateTimed t

/-- Every step keeps the dispatcher from heating without PERMIT or over an UNCERTAIN track, each zone's state
in agreement with its enable, rating and misses, and the grants and setpoints in their ranges (R52, R53,
R57, R74, R80, R84, R87). -/
def Obligations.StepKeepsPower : Prop :=
  ∀ s t : State, step s = .next t →
    (DispatcherSafe s → DispatcherSafe t) ∧ (ZonesConsistent s → ZonesConsistent t)

/-- Every step keeps each recipe in use VALID, the written fields in their ranges, and every pointer at a
field (R124 to R127). -/
def Obligations.StepKeepsRecipes : Prop :=
  ∀ s t : State, step s = .next t → RecipesGuarded s → RecipesGuarded t

/-- Every step keeps the shape of the lot queue, and a command or event keeps the lot account when the next
lot number is none of the queue's, as R135 says it is (R134, R135, R140, R141; log 31). -/
def Obligations.LotAccountKept : Prop :=
  (∀ s t : State, step s = .next t → LotsInShape s → LotsInShape t) ∧
  ∀ (i : Instr) (s t : State), exec i s = .next t → LotsInShape s →
    s.lot.nextNumber ∉ lotNumbers s → LotLaw s → LotLaw t

/-- Every step keeps the items of the link units in agreement: at most 4 frames, the pace output by the
room in the FIFO, one command at a time, and no free unit with a waiting frame (R143, R147 to R150,
R152); and a pyrometer input holds at most three bytes of a frame, 0xC3 first (R92). -/
def Obligations.StepKeepsLinks : Prop :=
  ∀ s t : State, step s = .next t →
    (LinksConsistent s → LinksConsistent t) ∧ (InputsConsistent s → InputsConsistent t)

end
end

