-- ==== Sys2Proof/Laws/State.lean ====
section
/-! SUPPORT. One lemma for each field and each update of the state, the updates written twice or with the
value that stands, and reading and replacing one place of `PerStation` and `PerZone`. -/

namespace Sys2Proof

/-! ### The collections -/

@[simp] theorem PerStation.get_set_same {α : Type} (p : PerStation α) (st : Station) (a : α) :
    (p.set st a).get st = a := by cases st <;> rfl

@[simp] theorem PerStation.get_set_ne {α : Type} (p : PerStation α) {st other : Station} (a : α)
    (h : other ≠ st) : (p.set st a).get other = p.get other := by
  cases st <;> cases other <;> first | rfl | exact absurd rfl h

@[simp] theorem PerStation.set_get {α : Type} (p : PerStation α) (st : Station) :
    p.set st (p.get st) = p := by cases st <;> rfl

@[simp] theorem PerStation.set_set {α : Type} (p : PerStation α) (st : Station) (a b : α) :
    (p.set st a).set st b = p.set st b := by cases st <;> rfl

@[simp] theorem PerStation.get_map {α β : Type} (f : α → β) (p : PerStation α) (st : Station) :
    (p.map f).get st = f (p.get st) := by cases st <;> rfl

theorem PerStation.ext_get {α : Type} {p q : PerStation α} (h : ∀ st, p.get st = q.get st) : p = q := by
  cases p; cases q
  have h1 := h .press
  have h2 := h .loader
  have h3 := h .supervisor
  simp_all [PerStation.get]

@[simp] theorem PerZone.get_set_same {α : Type} (p : PerZone α) (z : ZoneNo) (a : α) :
    (p.set z a).get z = a := by cases z <;> rfl

@[simp] theorem PerZone.get_set_ne {α : Type} (p : PerZone α) {z other : ZoneNo} (a : α)
    (h : other ≠ z) : (p.set z a).get other = p.get other := by
  cases z <;> cases other <;> first | rfl | exact absurd rfl h

@[simp] theorem PerZone.get_tabulate {α : Type} (f : ZoneNo → α) (z : ZoneNo) :
    (PerZone.tabulate f).get z = f z := by cases z <;> rfl

@[simp] theorem PerZone.get_const {α : Type} (a : α) (z : ZoneNo) : (PerZone.const a).get z = a := by
  cases z <;> rfl

theorem PerZone.ext_get {α : Type} {p q : PerZone α} (h : ∀ z, p.get z = q.get z) : p = q := by
  have h1 := h .z1
  have h2 := h .z2
  have h3 := h .z3
  have h4 := h .z4
  have h5 := h .z5
  have h6 := h .z6
  have h7 := h .z7
  have h8 := h .z8
  cases p; cases q
  simp_all [PerZone.get]

end Sys2Proof

namespace Sys2Proof.Machine

variable (s : State)

/-! ### withClock -/

@[simp] theorem State.withClock_ms (ms secs : Nat) : (s.withClock ms secs).ms = ms := rfl
@[simp] theorem State.withClock_secs (ms secs : Nat) : (s.withClock ms secs).secs = secs := rfl
@[simp] theorem State.withClock_permit (ms secs : Nat) :
    (s.withClock ms secs).permit = s.permit := rfl
@[simp] theorem State.withClock_unit (ms secs : Nat) : (s.withClock ms secs).unit = s.unit := rfl
@[simp] theorem State.withClock_trk (ms secs : Nat) : (s.withClock ms secs).trk = s.trk := rfl
@[simp] theorem State.withClock_est (ms secs : Nat) : (s.withClock ms secs).est = s.est := rfl
@[simp] theorem State.withClock_dsp (ms secs : Nat) : (s.withClock ms secs).dsp = s.dsp := rfl
@[simp] theorem State.withClock_ilc (ms secs : Nat) : (s.withClock ms secs).ilc = s.ilc := rfl
@[simp] theorem State.withClock_zones (ms secs : Nat) : (s.withClock ms secs).zones = s.zones := rfl
@[simp] theorem State.withClock_pst (ms secs : Nat) : (s.withClock ms secs).pst = s.pst := rfl
@[simp] theorem State.withClock_pya (ms secs : Nat) : (s.withClock ms secs).pya = s.pya := rfl
@[simp] theorem State.withClock_pyb (ms secs : Nat) : (s.withClock ms secs).pyb = s.pyb := rfl
@[simp] theorem State.withClock_evu (ms secs : Nat) : (s.withClock ms secs).evu = s.evu := rfl
@[simp] theorem State.withClock_phu (ms secs : Nat) : (s.withClock ms secs).phu = s.phu := rfl
@[simp] theorem State.withClock_lot (ms secs : Nat) : (s.withClock ms secs).lot = s.lot := rfl
@[simp] theorem State.withClock_ntc (ms secs : Nat) : (s.withClock ms secs).ntc = s.ntc := rfl
@[simp] theorem State.withClock_links (ms secs : Nat) : (s.withClock ms secs).links = s.links := rfl
@[simp] theorem State.withClock_pending (ms secs : Nat) :
    (s.withClock ms secs).pending = s.pending := rfl
@[simp] theorem State.withClock_self : s.withClock s.ms s.secs = s := rfl
@[simp] theorem State.withClock_withClock (a b ms secs : Nat) :
    (s.withClock a b).withClock ms secs = s.withClock ms secs := rfl

/-! ### withPermit -/

@[simp] theorem State.withPermit_ms (v : Bool) : (s.withPermit v).ms = s.ms := rfl
@[simp] theorem State.withPermit_secs (v : Bool) : (s.withPermit v).secs = s.secs := rfl
@[simp] theorem State.withPermit_permit (v : Bool) : (s.withPermit v).permit = v := rfl
@[simp] theorem State.withPermit_unit (v : Bool) : (s.withPermit v).unit = s.unit := rfl
@[simp] theorem State.withPermit_trk (v : Bool) : (s.withPermit v).trk = s.trk := rfl
@[simp] theorem State.withPermit_est (v : Bool) : (s.withPermit v).est = s.est := rfl
@[simp] theorem State.withPermit_dsp (v : Bool) : (s.withPermit v).dsp = s.dsp := rfl
@[simp] theorem State.withPermit_ilc (v : Bool) : (s.withPermit v).ilc = s.ilc := rfl
@[simp] theorem State.withPermit_zones (v : Bool) : (s.withPermit v).zones = s.zones := rfl
@[simp] theorem State.withPermit_pst (v : Bool) : (s.withPermit v).pst = s.pst := rfl
@[simp] theorem State.withPermit_pya (v : Bool) : (s.withPermit v).pya = s.pya := rfl
@[simp] theorem State.withPermit_pyb (v : Bool) : (s.withPermit v).pyb = s.pyb := rfl
@[simp] theorem State.withPermit_evu (v : Bool) : (s.withPermit v).evu = s.evu := rfl
@[simp] theorem State.withPermit_phu (v : Bool) : (s.withPermit v).phu = s.phu := rfl
@[simp] theorem State.withPermit_lot (v : Bool) : (s.withPermit v).lot = s.lot := rfl
@[simp] theorem State.withPermit_ntc (v : Bool) : (s.withPermit v).ntc = s.ntc := rfl
@[simp] theorem State.withPermit_links (v : Bool) : (s.withPermit v).links = s.links := rfl
@[simp] theorem State.withPermit_pending (v : Bool) : (s.withPermit v).pending = s.pending := rfl
@[simp] theorem State.withPermit_self : s.withPermit s.permit = s := rfl
@[simp] theorem State.withPermit_withPermit (a v : Bool) :
    (s.withPermit a).withPermit v = s.withPermit v := rfl

/-! ### withUnit -/

@[simp] theorem State.withUnit_ms (v : Nat) : (s.withUnit v).ms = s.ms := rfl
@[simp] theorem State.withUnit_secs (v : Nat) : (s.withUnit v).secs = s.secs := rfl
@[simp] theorem State.withUnit_permit (v : Nat) : (s.withUnit v).permit = s.permit := rfl
@[simp] theorem State.withUnit_unit (v : Nat) : (s.withUnit v).unit = v := rfl
@[simp] theorem State.withUnit_trk (v : Nat) : (s.withUnit v).trk = s.trk := rfl
@[simp] theorem State.withUnit_est (v : Nat) : (s.withUnit v).est = s.est := rfl
@[simp] theorem State.withUnit_dsp (v : Nat) : (s.withUnit v).dsp = s.dsp := rfl
@[simp] theorem State.withUnit_ilc (v : Nat) : (s.withUnit v).ilc = s.ilc := rfl
@[simp] theorem State.withUnit_zones (v : Nat) : (s.withUnit v).zones = s.zones := rfl
@[simp] theorem State.withUnit_pst (v : Nat) : (s.withUnit v).pst = s.pst := rfl
@[simp] theorem State.withUnit_pya (v : Nat) : (s.withUnit v).pya = s.pya := rfl
@[simp] theorem State.withUnit_pyb (v : Nat) : (s.withUnit v).pyb = s.pyb := rfl
@[simp] theorem State.withUnit_evu (v : Nat) : (s.withUnit v).evu = s.evu := rfl
@[simp] theorem State.withUnit_phu (v : Nat) : (s.withUnit v).phu = s.phu := rfl
@[simp] theorem State.withUnit_lot (v : Nat) : (s.withUnit v).lot = s.lot := rfl
@[simp] theorem State.withUnit_ntc (v : Nat) : (s.withUnit v).ntc = s.ntc := rfl
@[simp] theorem State.withUnit_links (v : Nat) : (s.withUnit v).links = s.links := rfl
@[simp] theorem State.withUnit_pending (v : Nat) : (s.withUnit v).pending = s.pending := rfl
@[simp] theorem State.withUnit_self : s.withUnit s.unit = s := rfl
@[simp] theorem State.withUnit_withUnit (a v : Nat) :
    (s.withUnit a).withUnit v = s.withUnit v := rfl

/-! ### withTrk -/

@[simp] theorem State.withTrk_ms (v : Track) : (s.withTrk v).ms = s.ms := rfl
@[simp] theorem State.withTrk_secs (v : Track) : (s.withTrk v).secs = s.secs := rfl
@[simp] theorem State.withTrk_permit (v : Track) : (s.withTrk v).permit = s.permit := rfl
@[simp] theorem State.withTrk_unit (v : Track) : (s.withTrk v).unit = s.unit := rfl
@[simp] theorem State.withTrk_trk (v : Track) : (s.withTrk v).trk = v := rfl
@[simp] theorem State.withTrk_est (v : Track) : (s.withTrk v).est = s.est := rfl
@[simp] theorem State.withTrk_dsp (v : Track) : (s.withTrk v).dsp = s.dsp := rfl
@[simp] theorem State.withTrk_ilc (v : Track) : (s.withTrk v).ilc = s.ilc := rfl
@[simp] theorem State.withTrk_zones (v : Track) : (s.withTrk v).zones = s.zones := rfl
@[simp] theorem State.withTrk_pst (v : Track) : (s.withTrk v).pst = s.pst := rfl
@[simp] theorem State.withTrk_pya (v : Track) : (s.withTrk v).pya = s.pya := rfl
@[simp] theorem State.withTrk_pyb (v : Track) : (s.withTrk v).pyb = s.pyb := rfl
@[simp] theorem State.withTrk_evu (v : Track) : (s.withTrk v).evu = s.evu := rfl
@[simp] theorem State.withTrk_phu (v : Track) : (s.withTrk v).phu = s.phu := rfl
@[simp] theorem State.withTrk_lot (v : Track) : (s.withTrk v).lot = s.lot := rfl
@[simp] theorem State.withTrk_ntc (v : Track) : (s.withTrk v).ntc = s.ntc := rfl
@[simp] theorem State.withTrk_links (v : Track) : (s.withTrk v).links = s.links := rfl
@[simp] theorem State.withTrk_pending (v : Track) : (s.withTrk v).pending = s.pending := rfl
@[simp] theorem State.withTrk_self : s.withTrk s.trk = s := rfl
@[simp] theorem State.withTrk_withTrk (a v : Track) : (s.withTrk a).withTrk v = s.withTrk v := rfl

/-! ### withEst -/

@[simp] theorem State.withEst_ms (v : Estimator) : (s.withEst v).ms = s.ms := rfl
@[simp] theorem State.withEst_secs (v : Estimator) : (s.withEst v).secs = s.secs := rfl
@[simp] theorem State.withEst_permit (v : Estimator) : (s.withEst v).permit = s.permit := rfl
@[simp] theorem State.withEst_unit (v : Estimator) : (s.withEst v).unit = s.unit := rfl
@[simp] theorem State.withEst_trk (v : Estimator) : (s.withEst v).trk = s.trk := rfl
@[simp] theorem State.withEst_est (v : Estimator) : (s.withEst v).est = v := rfl
@[simp] theorem State.withEst_dsp (v : Estimator) : (s.withEst v).dsp = s.dsp := rfl
@[simp] theorem State.withEst_ilc (v : Estimator) : (s.withEst v).ilc = s.ilc := rfl
@[simp] theorem State.withEst_zones (v : Estimator) : (s.withEst v).zones = s.zones := rfl
@[simp] theorem State.withEst_pst (v : Estimator) : (s.withEst v).pst = s.pst := rfl
@[simp] theorem State.withEst_pya (v : Estimator) : (s.withEst v).pya = s.pya := rfl
@[simp] theorem State.withEst_pyb (v : Estimator) : (s.withEst v).pyb = s.pyb := rfl
@[simp] theorem State.withEst_evu (v : Estimator) : (s.withEst v).evu = s.evu := rfl
@[simp] theorem State.withEst_phu (v : Estimator) : (s.withEst v).phu = s.phu := rfl
@[simp] theorem State.withEst_lot (v : Estimator) : (s.withEst v).lot = s.lot := rfl
@[simp] theorem State.withEst_ntc (v : Estimator) : (s.withEst v).ntc = s.ntc := rfl
@[simp] theorem State.withEst_links (v : Estimator) : (s.withEst v).links = s.links := rfl
@[simp] theorem State.withEst_pending (v : Estimator) : (s.withEst v).pending = s.pending := rfl
@[simp] theorem State.withEst_self : s.withEst s.est = s := rfl
@[simp] theorem State.withEst_withEst (a v : Estimator) :
    (s.withEst a).withEst v = s.withEst v := rfl

/-! ### withDsp -/

@[simp] theorem State.withDsp_ms (v : Dispatcher) : (s.withDsp v).ms = s.ms := rfl
@[simp] theorem State.withDsp_secs (v : Dispatcher) : (s.withDsp v).secs = s.secs := rfl
@[simp] theorem State.withDsp_permit (v : Dispatcher) : (s.withDsp v).permit = s.permit := rfl
@[simp] theorem State.withDsp_unit (v : Dispatcher) : (s.withDsp v).unit = s.unit := rfl
@[simp] theorem State.withDsp_trk (v : Dispatcher) : (s.withDsp v).trk = s.trk := rfl
@[simp] theorem State.withDsp_est (v : Dispatcher) : (s.withDsp v).est = s.est := rfl
@[simp] theorem State.withDsp_dsp (v : Dispatcher) : (s.withDsp v).dsp = v := rfl
@[simp] theorem State.withDsp_ilc (v : Dispatcher) : (s.withDsp v).ilc = s.ilc := rfl
@[simp] theorem State.withDsp_zones (v : Dispatcher) : (s.withDsp v).zones = s.zones := rfl
@[simp] theorem State.withDsp_pst (v : Dispatcher) : (s.withDsp v).pst = s.pst := rfl
@[simp] theorem State.withDsp_pya (v : Dispatcher) : (s.withDsp v).pya = s.pya := rfl
@[simp] theorem State.withDsp_pyb (v : Dispatcher) : (s.withDsp v).pyb = s.pyb := rfl
@[simp] theorem State.withDsp_evu (v : Dispatcher) : (s.withDsp v).evu = s.evu := rfl
@[simp] theorem State.withDsp_phu (v : Dispatcher) : (s.withDsp v).phu = s.phu := rfl
@[simp] theorem State.withDsp_lot (v : Dispatcher) : (s.withDsp v).lot = s.lot := rfl
@[simp] theorem State.withDsp_ntc (v : Dispatcher) : (s.withDsp v).ntc = s.ntc := rfl
@[simp] theorem State.withDsp_links (v : Dispatcher) : (s.withDsp v).links = s.links := rfl
@[simp] theorem State.withDsp_pending (v : Dispatcher) : (s.withDsp v).pending = s.pending := rfl
@[simp] theorem State.withDsp_self : s.withDsp s.dsp = s := rfl
@[simp] theorem State.withDsp_withDsp (a v : Dispatcher) :
    (s.withDsp a).withDsp v = s.withDsp v := rfl

/-! ### withIlc -/

@[simp] theorem State.withIlc_ms (v : Inverters) : (s.withIlc v).ms = s.ms := rfl
@[simp] theorem State.withIlc_secs (v : Inverters) : (s.withIlc v).secs = s.secs := rfl
@[simp] theorem State.withIlc_permit (v : Inverters) : (s.withIlc v).permit = s.permit := rfl
@[simp] theorem State.withIlc_unit (v : Inverters) : (s.withIlc v).unit = s.unit := rfl
@[simp] theorem State.withIlc_trk (v : Inverters) : (s.withIlc v).trk = s.trk := rfl
@[simp] theorem State.withIlc_est (v : Inverters) : (s.withIlc v).est = s.est := rfl
@[simp] theorem State.withIlc_dsp (v : Inverters) : (s.withIlc v).dsp = s.dsp := rfl
@[simp] theorem State.withIlc_ilc (v : Inverters) : (s.withIlc v).ilc = v := rfl
@[simp] theorem State.withIlc_zones (v : Inverters) : (s.withIlc v).zones = s.zones := rfl
@[simp] theorem State.withIlc_pst (v : Inverters) : (s.withIlc v).pst = s.pst := rfl
@[simp] theorem State.withIlc_pya (v : Inverters) : (s.withIlc v).pya = s.pya := rfl
@[simp] theorem State.withIlc_pyb (v : Inverters) : (s.withIlc v).pyb = s.pyb := rfl
@[simp] theorem State.withIlc_evu (v : Inverters) : (s.withIlc v).evu = s.evu := rfl
@[simp] theorem State.withIlc_phu (v : Inverters) : (s.withIlc v).phu = s.phu := rfl
@[simp] theorem State.withIlc_lot (v : Inverters) : (s.withIlc v).lot = s.lot := rfl
@[simp] theorem State.withIlc_ntc (v : Inverters) : (s.withIlc v).ntc = s.ntc := rfl
@[simp] theorem State.withIlc_links (v : Inverters) : (s.withIlc v).links = s.links := rfl
@[simp] theorem State.withIlc_pending (v : Inverters) : (s.withIlc v).pending = s.pending := rfl
@[simp] theorem State.withIlc_self : s.withIlc s.ilc = s := rfl
@[simp] theorem State.withIlc_withIlc (a v : Inverters) :
    (s.withIlc a).withIlc v = s.withIlc v := rfl

/-! ### withZones -/

@[simp] theorem State.withZones_ms (v : PerZone ZoneRecord) : (s.withZones v).ms = s.ms := rfl
@[simp] theorem State.withZones_secs (v : PerZone ZoneRecord) : (s.withZones v).secs = s.secs := rfl
@[simp] theorem State.withZones_permit (v : PerZone ZoneRecord) :
    (s.withZones v).permit = s.permit := rfl
@[simp] theorem State.withZones_unit (v : PerZone ZoneRecord) : (s.withZones v).unit = s.unit := rfl
@[simp] theorem State.withZones_trk (v : PerZone ZoneRecord) : (s.withZones v).trk = s.trk := rfl
@[simp] theorem State.withZones_est (v : PerZone ZoneRecord) : (s.withZones v).est = s.est := rfl
@[simp] theorem State.withZones_dsp (v : PerZone ZoneRecord) : (s.withZones v).dsp = s.dsp := rfl
@[simp] theorem State.withZones_ilc (v : PerZone ZoneRecord) : (s.withZones v).ilc = s.ilc := rfl
@[simp] theorem State.withZones_zones (v : PerZone ZoneRecord) : (s.withZones v).zones = v := rfl
@[simp] theorem State.withZones_pst (v : PerZone ZoneRecord) : (s.withZones v).pst = s.pst := rfl
@[simp] theorem State.withZones_pya (v : PerZone ZoneRecord) : (s.withZones v).pya = s.pya := rfl
@[simp] theorem State.withZones_pyb (v : PerZone ZoneRecord) : (s.withZones v).pyb = s.pyb := rfl
@[simp] theorem State.withZones_evu (v : PerZone ZoneRecord) : (s.withZones v).evu = s.evu := rfl
@[simp] theorem State.withZones_phu (v : PerZone ZoneRecord) : (s.withZones v).phu = s.phu := rfl
@[simp] theorem State.withZones_lot (v : PerZone ZoneRecord) : (s.withZones v).lot = s.lot := rfl
@[simp] theorem State.withZones_ntc (v : PerZone ZoneRecord) : (s.withZones v).ntc = s.ntc := rfl
@[simp] theorem State.withZones_links (v : PerZone ZoneRecord) :
    (s.withZones v).links = s.links := rfl
@[simp] theorem State.withZones_pending (v : PerZone ZoneRecord) :
    (s.withZones v).pending = s.pending := rfl
@[simp] theorem State.withZones_self : s.withZones s.zones = s := rfl
@[simp] theorem State.withZones_withZones (a v : PerZone ZoneRecord) :
    (s.withZones a).withZones v = s.withZones v := rfl

/-! ### withPst -/

@[simp] theorem State.withPst_ms (v : Params) : (s.withPst v).ms = s.ms := rfl
@[simp] theorem State.withPst_secs (v : Params) : (s.withPst v).secs = s.secs := rfl
@[simp] theorem State.withPst_permit (v : Params) : (s.withPst v).permit = s.permit := rfl
@[simp] theorem State.withPst_unit (v : Params) : (s.withPst v).unit = s.unit := rfl
@[simp] theorem State.withPst_trk (v : Params) : (s.withPst v).trk = s.trk := rfl
@[simp] theorem State.withPst_est (v : Params) : (s.withPst v).est = s.est := rfl
@[simp] theorem State.withPst_dsp (v : Params) : (s.withPst v).dsp = s.dsp := rfl
@[simp] theorem State.withPst_ilc (v : Params) : (s.withPst v).ilc = s.ilc := rfl
@[simp] theorem State.withPst_zones (v : Params) : (s.withPst v).zones = s.zones := rfl
@[simp] theorem State.withPst_pst (v : Params) : (s.withPst v).pst = v := rfl
@[simp] theorem State.withPst_pya (v : Params) : (s.withPst v).pya = s.pya := rfl
@[simp] theorem State.withPst_pyb (v : Params) : (s.withPst v).pyb = s.pyb := rfl
@[simp] theorem State.withPst_evu (v : Params) : (s.withPst v).evu = s.evu := rfl
@[simp] theorem State.withPst_phu (v : Params) : (s.withPst v).phu = s.phu := rfl
@[simp] theorem State.withPst_lot (v : Params) : (s.withPst v).lot = s.lot := rfl
@[simp] theorem State.withPst_ntc (v : Params) : (s.withPst v).ntc = s.ntc := rfl
@[simp] theorem State.withPst_links (v : Params) : (s.withPst v).links = s.links := rfl
@[simp] theorem State.withPst_pending (v : Params) : (s.withPst v).pending = s.pending := rfl
@[simp] theorem State.withPst_self : s.withPst s.pst = s := rfl
@[simp] theorem State.withPst_withPst (a v : Params) : (s.withPst a).withPst v = s.withPst v := rfl

/-! ### withPya -/

@[simp] theorem State.withPya_ms (v : PyroInput) : (s.withPya v).ms = s.ms := rfl
@[simp] theorem State.withPya_secs (v : PyroInput) : (s.withPya v).secs = s.secs := rfl
@[simp] theorem State.withPya_permit (v : PyroInput) : (s.withPya v).permit = s.permit := rfl
@[simp] theorem State.withPya_unit (v : PyroInput) : (s.withPya v).unit = s.unit := rfl
@[simp] theorem State.withPya_trk (v : PyroInput) : (s.withPya v).trk = s.trk := rfl
@[simp] theorem State.withPya_est (v : PyroInput) : (s.withPya v).est = s.est := rfl
@[simp] theorem State.withPya_dsp (v : PyroInput) : (s.withPya v).dsp = s.dsp := rfl
@[simp] theorem State.withPya_ilc (v : PyroInput) : (s.withPya v).ilc = s.ilc := rfl
@[simp] theorem State.withPya_zones (v : PyroInput) : (s.withPya v).zones = s.zones := rfl
@[simp] theorem State.withPya_pst (v : PyroInput) : (s.withPya v).pst = s.pst := rfl
@[simp] theorem State.withPya_pya (v : PyroInput) : (s.withPya v).pya = v := rfl
@[simp] theorem State.withPya_pyb (v : PyroInput) : (s.withPya v).pyb = s.pyb := rfl
@[simp] theorem State.withPya_evu (v : PyroInput) : (s.withPya v).evu = s.evu := rfl
@[simp] theorem State.withPya_phu (v : PyroInput) : (s.withPya v).phu = s.phu := rfl
@[simp] theorem State.withPya_lot (v : PyroInput) : (s.withPya v).lot = s.lot := rfl
@[simp] theorem State.withPya_ntc (v : PyroInput) : (s.withPya v).ntc = s.ntc := rfl
@[simp] theorem State.withPya_links (v : PyroInput) : (s.withPya v).links = s.links := rfl
@[simp] theorem State.withPya_pending (v : PyroInput) : (s.withPya v).pending = s.pending := rfl
@[simp] theorem State.withPya_self : s.withPya s.pya = s := rfl
@[simp] theorem State.withPya_withPya (a v : PyroInput) :
    (s.withPya a).withPya v = s.withPya v := rfl

/-! ### withPyb -/

@[simp] theorem State.withPyb_ms (v : PyroInput) : (s.withPyb v).ms = s.ms := rfl
@[simp] theorem State.withPyb_secs (v : PyroInput) : (s.withPyb v).secs = s.secs := rfl
@[simp] theorem State.withPyb_permit (v : PyroInput) : (s.withPyb v).permit = s.permit := rfl
@[simp] theorem State.withPyb_unit (v : PyroInput) : (s.withPyb v).unit = s.unit := rfl
@[simp] theorem State.withPyb_trk (v : PyroInput) : (s.withPyb v).trk = s.trk := rfl
@[simp] theorem State.withPyb_est (v : PyroInput) : (s.withPyb v).est = s.est := rfl
@[simp] theorem State.withPyb_dsp (v : PyroInput) : (s.withPyb v).dsp = s.dsp := rfl
@[simp] theorem State.withPyb_ilc (v : PyroInput) : (s.withPyb v).ilc = s.ilc := rfl
@[simp] theorem State.withPyb_zones (v : PyroInput) : (s.withPyb v).zones = s.zones := rfl
@[simp] theorem State.withPyb_pst (v : PyroInput) : (s.withPyb v).pst = s.pst := rfl
@[simp] theorem State.withPyb_pya (v : PyroInput) : (s.withPyb v).pya = s.pya := rfl
@[simp] theorem State.withPyb_pyb (v : PyroInput) : (s.withPyb v).pyb = v := rfl
@[simp] theorem State.withPyb_evu (v : PyroInput) : (s.withPyb v).evu = s.evu := rfl
@[simp] theorem State.withPyb_phu (v : PyroInput) : (s.withPyb v).phu = s.phu := rfl
@[simp] theorem State.withPyb_lot (v : PyroInput) : (s.withPyb v).lot = s.lot := rfl
@[simp] theorem State.withPyb_ntc (v : PyroInput) : (s.withPyb v).ntc = s.ntc := rfl
@[simp] theorem State.withPyb_links (v : PyroInput) : (s.withPyb v).links = s.links := rfl
@[simp] theorem State.withPyb_pending (v : PyroInput) : (s.withPyb v).pending = s.pending := rfl
@[simp] theorem State.withPyb_self : s.withPyb s.pyb = s := rfl
@[simp] theorem State.withPyb_withPyb (a v : PyroInput) :
    (s.withPyb a).withPyb v = s.withPyb v := rfl

/-! ### withEvu -/

@[simp] theorem State.withEvu_ms (v : VerdictUnit) : (s.withEvu v).ms = s.ms := rfl
@[simp] theorem State.withEvu_secs (v : VerdictUnit) : (s.withEvu v).secs = s.secs := rfl
@[simp] theorem State.withEvu_permit (v : VerdictUnit) : (s.withEvu v).permit = s.permit := rfl
@[simp] theorem State.withEvu_unit (v : VerdictUnit) : (s.withEvu v).unit = s.unit := rfl
@[simp] theorem State.withEvu_trk (v : VerdictUnit) : (s.withEvu v).trk = s.trk := rfl
@[simp] theorem State.withEvu_est (v : VerdictUnit) : (s.withEvu v).est = s.est := rfl
@[simp] theorem State.withEvu_dsp (v : VerdictUnit) : (s.withEvu v).dsp = s.dsp := rfl
@[simp] theorem State.withEvu_ilc (v : VerdictUnit) : (s.withEvu v).ilc = s.ilc := rfl
@[simp] theorem State.withEvu_zones (v : VerdictUnit) : (s.withEvu v).zones = s.zones := rfl
@[simp] theorem State.withEvu_pst (v : VerdictUnit) : (s.withEvu v).pst = s.pst := rfl
@[simp] theorem State.withEvu_pya (v : VerdictUnit) : (s.withEvu v).pya = s.pya := rfl
@[simp] theorem State.withEvu_pyb (v : VerdictUnit) : (s.withEvu v).pyb = s.pyb := rfl
@[simp] theorem State.withEvu_evu (v : VerdictUnit) : (s.withEvu v).evu = v := rfl
@[simp] theorem State.withEvu_phu (v : VerdictUnit) : (s.withEvu v).phu = s.phu := rfl
@[simp] theorem State.withEvu_lot (v : VerdictUnit) : (s.withEvu v).lot = s.lot := rfl
@[simp] theorem State.withEvu_ntc (v : VerdictUnit) : (s.withEvu v).ntc = s.ntc := rfl
@[simp] theorem State.withEvu_links (v : VerdictUnit) : (s.withEvu v).links = s.links := rfl
@[simp] theorem State.withEvu_pending (v : VerdictUnit) : (s.withEvu v).pending = s.pending := rfl
@[simp] theorem State.withEvu_self : s.withEvu s.evu = s := rfl
@[simp] theorem State.withEvu_withEvu (a v : VerdictUnit) :
    (s.withEvu a).withEvu v = s.withEvu v := rfl

/-! ### withPhu -/

@[simp] theorem State.withPhu_ms (v : Option Reservation) : (s.withPhu v).ms = s.ms := rfl
@[simp] theorem State.withPhu_secs (v : Option Reservation) : (s.withPhu v).secs = s.secs := rfl
@[simp] theorem State.withPhu_permit (v : Option Reservation) :
    (s.withPhu v).permit = s.permit := rfl
@[simp] theorem State.withPhu_unit (v : Option Reservation) : (s.withPhu v).unit = s.unit := rfl
@[simp] theorem State.withPhu_trk (v : Option Reservation) : (s.withPhu v).trk = s.trk := rfl
@[simp] theorem State.withPhu_est (v : Option Reservation) : (s.withPhu v).est = s.est := rfl
@[simp] theorem State.withPhu_dsp (v : Option Reservation) : (s.withPhu v).dsp = s.dsp := rfl
@[simp] theorem State.withPhu_ilc (v : Option Reservation) : (s.withPhu v).ilc = s.ilc := rfl
@[simp] theorem State.withPhu_zones (v : Option Reservation) : (s.withPhu v).zones = s.zones := rfl
@[simp] theorem State.withPhu_pst (v : Option Reservation) : (s.withPhu v).pst = s.pst := rfl
@[simp] theorem State.withPhu_pya (v : Option Reservation) : (s.withPhu v).pya = s.pya := rfl
@[simp] theorem State.withPhu_pyb (v : Option Reservation) : (s.withPhu v).pyb = s.pyb := rfl
@[simp] theorem State.withPhu_evu (v : Option Reservation) : (s.withPhu v).evu = s.evu := rfl
@[simp] theorem State.withPhu_phu (v : Option Reservation) : (s.withPhu v).phu = v := rfl
@[simp] theorem State.withPhu_lot (v : Option Reservation) : (s.withPhu v).lot = s.lot := rfl
@[simp] theorem State.withPhu_ntc (v : Option Reservation) : (s.withPhu v).ntc = s.ntc := rfl
@[simp] theorem State.withPhu_links (v : Option Reservation) : (s.withPhu v).links = s.links := rfl
@[simp] theorem State.withPhu_pending (v : Option Reservation) :
    (s.withPhu v).pending = s.pending := rfl
@[simp] theorem State.withPhu_self : s.withPhu s.phu = s := rfl
@[simp] theorem State.withPhu_withPhu (a v : Option Reservation) :
    (s.withPhu a).withPhu v = s.withPhu v := rfl

/-! ### withLot -/

@[simp] theorem State.withLot_ms (v : Lots) : (s.withLot v).ms = s.ms := rfl
@[simp] theorem State.withLot_secs (v : Lots) : (s.withLot v).secs = s.secs := rfl
@[simp] theorem State.withLot_permit (v : Lots) : (s.withLot v).permit = s.permit := rfl
@[simp] theorem State.withLot_unit (v : Lots) : (s.withLot v).unit = s.unit := rfl
@[simp] theorem State.withLot_trk (v : Lots) : (s.withLot v).trk = s.trk := rfl
@[simp] theorem State.withLot_est (v : Lots) : (s.withLot v).est = s.est := rfl
@[simp] theorem State.withLot_dsp (v : Lots) : (s.withLot v).dsp = s.dsp := rfl
@[simp] theorem State.withLot_ilc (v : Lots) : (s.withLot v).ilc = s.ilc := rfl
@[simp] theorem State.withLot_zones (v : Lots) : (s.withLot v).zones = s.zones := rfl
@[simp] theorem State.withLot_pst (v : Lots) : (s.withLot v).pst = s.pst := rfl
@[simp] theorem State.withLot_pya (v : Lots) : (s.withLot v).pya = s.pya := rfl
@[simp] theorem State.withLot_pyb (v : Lots) : (s.withLot v).pyb = s.pyb := rfl
@[simp] theorem State.withLot_evu (v : Lots) : (s.withLot v).evu = s.evu := rfl
@[simp] theorem State.withLot_phu (v : Lots) : (s.withLot v).phu = s.phu := rfl
@[simp] theorem State.withLot_lot (v : Lots) : (s.withLot v).lot = v := rfl
@[simp] theorem State.withLot_ntc (v : Lots) : (s.withLot v).ntc = s.ntc := rfl
@[simp] theorem State.withLot_links (v : Lots) : (s.withLot v).links = s.links := rfl
@[simp] theorem State.withLot_pending (v : Lots) : (s.withLot v).pending = s.pending := rfl
@[simp] theorem State.withLot_self : s.withLot s.lot = s := rfl
@[simp] theorem State.withLot_withLot (a v : Lots) : (s.withLot a).withLot v = s.withLot v := rfl

/-! ### withNtc -/

@[simp] theorem State.withNtc_ms (v : PerStation Notices) : (s.withNtc v).ms = s.ms := rfl
@[simp] theorem State.withNtc_secs (v : PerStation Notices) : (s.withNtc v).secs = s.secs := rfl
@[simp] theorem State.withNtc_permit (v : PerStation Notices) :
    (s.withNtc v).permit = s.permit := rfl
@[simp] theorem State.withNtc_unit (v : PerStation Notices) : (s.withNtc v).unit = s.unit := rfl
@[simp] theorem State.withNtc_trk (v : PerStation Notices) : (s.withNtc v).trk = s.trk := rfl
@[simp] theorem State.withNtc_est (v : PerStation Notices) : (s.withNtc v).est = s.est := rfl
@[simp] theorem State.withNtc_dsp (v : PerStation Notices) : (s.withNtc v).dsp = s.dsp := rfl
@[simp] theorem State.withNtc_ilc (v : PerStation Notices) : (s.withNtc v).ilc = s.ilc := rfl
@[simp] theorem State.withNtc_zones (v : PerStation Notices) : (s.withNtc v).zones = s.zones := rfl
@[simp] theorem State.withNtc_pst (v : PerStation Notices) : (s.withNtc v).pst = s.pst := rfl
@[simp] theorem State.withNtc_pya (v : PerStation Notices) : (s.withNtc v).pya = s.pya := rfl
@[simp] theorem State.withNtc_pyb (v : PerStation Notices) : (s.withNtc v).pyb = s.pyb := rfl
@[simp] theorem State.withNtc_evu (v : PerStation Notices) : (s.withNtc v).evu = s.evu := rfl
@[simp] theorem State.withNtc_phu (v : PerStation Notices) : (s.withNtc v).phu = s.phu := rfl
@[simp] theorem State.withNtc_lot (v : PerStation Notices) : (s.withNtc v).lot = s.lot := rfl
@[simp] theorem State.withNtc_ntc (v : PerStation Notices) : (s.withNtc v).ntc = v := rfl
@[simp] theorem State.withNtc_links (v : PerStation Notices) : (s.withNtc v).links = s.links := rfl
@[simp] theorem State.withNtc_pending (v : PerStation Notices) :
    (s.withNtc v).pending = s.pending := rfl
@[simp] theorem State.withNtc_self : s.withNtc s.ntc = s := rfl
@[simp] theorem State.withNtc_withNtc (a v : PerStation Notices) :
    (s.withNtc a).withNtc v = s.withNtc v := rfl

/-! ### withLinks -/

@[simp] theorem State.withLinks_ms (v : PerStation Link) : (s.withLinks v).ms = s.ms := rfl
@[simp] theorem State.withLinks_secs (v : PerStation Link) : (s.withLinks v).secs = s.secs := rfl
@[simp] theorem State.withLinks_permit (v : PerStation Link) :
    (s.withLinks v).permit = s.permit := rfl
@[simp] theorem State.withLinks_unit (v : PerStation Link) : (s.withLinks v).unit = s.unit := rfl
@[simp] theorem State.withLinks_trk (v : PerStation Link) : (s.withLinks v).trk = s.trk := rfl
@[simp] theorem State.withLinks_est (v : PerStation Link) : (s.withLinks v).est = s.est := rfl
@[simp] theorem State.withLinks_dsp (v : PerStation Link) : (s.withLinks v).dsp = s.dsp := rfl
@[simp] theorem State.withLinks_ilc (v : PerStation Link) : (s.withLinks v).ilc = s.ilc := rfl
@[simp] theorem State.withLinks_zones (v : PerStation Link) : (s.withLinks v).zones = s.zones := rfl
@[simp] theorem State.withLinks_pst (v : PerStation Link) : (s.withLinks v).pst = s.pst := rfl
@[simp] theorem State.withLinks_pya (v : PerStation Link) : (s.withLinks v).pya = s.pya := rfl
@[simp] theorem State.withLinks_pyb (v : PerStation Link) : (s.withLinks v).pyb = s.pyb := rfl
@[simp] theorem State.withLinks_evu (v : PerStation Link) : (s.withLinks v).evu = s.evu := rfl
@[simp] theorem State.withLinks_phu (v : PerStation Link) : (s.withLinks v).phu = s.phu := rfl
@[simp] theorem State.withLinks_lot (v : PerStation Link) : (s.withLinks v).lot = s.lot := rfl
@[simp] theorem State.withLinks_ntc (v : PerStation Link) : (s.withLinks v).ntc = s.ntc := rfl
@[simp] theorem State.withLinks_links (v : PerStation Link) : (s.withLinks v).links = v := rfl
@[simp] theorem State.withLinks_pending (v : PerStation Link) :
    (s.withLinks v).pending = s.pending := rfl
@[simp] theorem State.withLinks_self : s.withLinks s.links = s := rfl
@[simp] theorem State.withLinks_withLinks (a v : PerStation Link) :
    (s.withLinks a).withLinks v = s.withLinks v := rfl

/-! ### withPending -/

@[simp] theorem State.withPending_ms (v : List Instr) : (s.withPending v).ms = s.ms := rfl
@[simp] theorem State.withPending_secs (v : List Instr) : (s.withPending v).secs = s.secs := rfl
@[simp] theorem State.withPending_permit (v : List Instr) :
    (s.withPending v).permit = s.permit := rfl
@[simp] theorem State.withPending_unit (v : List Instr) : (s.withPending v).unit = s.unit := rfl
@[simp] theorem State.withPending_trk (v : List Instr) : (s.withPending v).trk = s.trk := rfl
@[simp] theorem State.withPending_est (v : List Instr) : (s.withPending v).est = s.est := rfl
@[simp] theorem State.withPending_dsp (v : List Instr) : (s.withPending v).dsp = s.dsp := rfl
@[simp] theorem State.withPending_ilc (v : List Instr) : (s.withPending v).ilc = s.ilc := rfl
@[simp] theorem State.withPending_zones (v : List Instr) : (s.withPending v).zones = s.zones := rfl
@[simp] theorem State.withPending_pst (v : List Instr) : (s.withPending v).pst = s.pst := rfl
@[simp] theorem State.withPending_pya (v : List Instr) : (s.withPending v).pya = s.pya := rfl
@[simp] theorem State.withPending_pyb (v : List Instr) : (s.withPending v).pyb = s.pyb := rfl
@[simp] theorem State.withPending_evu (v : List Instr) : (s.withPending v).evu = s.evu := rfl
@[simp] theorem State.withPending_phu (v : List Instr) : (s.withPending v).phu = s.phu := rfl
@[simp] theorem State.withPending_lot (v : List Instr) : (s.withPending v).lot = s.lot := rfl
@[simp] theorem State.withPending_ntc (v : List Instr) : (s.withPending v).ntc = s.ntc := rfl
@[simp] theorem State.withPending_links (v : List Instr) : (s.withPending v).links = s.links := rfl
@[simp] theorem State.withPending_pending (v : List Instr) : (s.withPending v).pending = v := rfl
@[simp] theorem State.withPending_self : s.withPending s.pending = s := rfl
@[simp] theorem State.withPending_withPending (a v : List Instr) :
    (s.withPending a).withPending v = s.withPending v := rfl

end Sys2Proof.Machine
end

