-- ==== Sys2Proof/Laws/Ops.lean ====
section
/-! SUPPORT. For each operation that several rows share, what it can do, said once: the notices, the link
units, the reservation, the lots, the gate front, pushes, the removal at the gate, and the rounds. -/

namespace Sys2Proof.Machine

/-! ### Timers -/

@[simp] theorem due_none (s : State) : due s none = false := rfl

@[simp] theorem due_some (s : State) (expiry : Nat) : due s (some expiry) = decide (expiry ≤ s.ms) := rfl

/-! ### Notices -/

theorem Raises.refl (n : PerStation Notices) : Raises 0 n n := by intro st; simp

theorem Raises.trans {a b : KindSet} {n m l : PerStation Notices} (h : Raises a n m)
    (h' : Raises b m l) : Raises (a ||| b) n l := by
  intro st
  obtain ⟨h1, h2, h3⟩ := h st
  obtain ⟨h4, h5, h6⟩ := h' st
  exact ⟨by rw [h4, h1, BitVec.or_assoc], by rw [h5, h2], by rw [h6, h3]⟩

/-- A raised kind is in the sets of all three stations, and nothing else has changed. -/
theorem raise_spec (k : Notice) (s : State) :
    Raises k.bit s.ntc (raise k s).ntc ∧ (raise k s).withNtc s.ntc = s := by
  constructor
  · intro st; simp [raise, Notices.add]
  · simp [raise]

theorem raiseIf_spec (b : Bool) (k : Notice) (s : State) :
    Raises (kindIf (b = true) k) s.ntc (raiseIf b k s).ntc ∧
      (raiseIf b k s).withNtc s.ntc = s := by
  cases b
  · exact ⟨Raises.refl _, rfl⟩
  · simpa [raiseIf, kindIf] using raise_spec k s

theorem raiseLinkError_spec (st : Station) (s : State) :
    LinkErrorOnly st s.ntc (raiseLinkError st s).ntc ∧
      (raiseLinkError st s).withNtc s.ntc = s := by
  refine ⟨⟨by simp [raiseLinkError], fun other h => by simp [raiseLinkError, h]⟩, ?_⟩
  simp [raiseLinkError]

/-! ### Link units -/

@[simp] theorem setLink_links (st : Station) (l : Link) (s : State) :
    (setLink st l s).links = s.links.set st l := rfl

theorem setLink_onlyLink (st : Station) (l : Link) (s : State) : OnlyLink st s (setLink st l s) :=
  ⟨by simp [setLink], fun other h => by simp [h]⟩

theorem OnlyLink.trans {st : Station} {s t u : State} (h : OnlyLink st s t) (h' : OnlyLink st t u) :
    OnlyLink st s u := by
  refine ⟨?_, fun other ho => by rw [h'.2 other ho, h.2 other ho]⟩
  rw [← h.1, ← h'.1]
  simp

/-- A unit takes its oldest frame when it is free and owes no reset; else nothing changes. -/
theorem takeNext_cases (l : Link) :
    l.takeNext = l ∨
      ∃ f rest, l.executing = none ∧ l.transmitter = .idle ∧ l.fifo = f :: rest ∧
        l.resetOwed = false ∧
        l.takeNext =
          { l with
            fifo := rest, executing := some { frame := f, dropReply := false }, pace := true } := by
  unfold Link.takeNext
  split
  · rename_i h1 h2 h3
    split
    · exact .inl rfl
    · rename_i h4
      exact .inr ⟨_, _, h1, h2, h3, by simpa using h4, rfl⟩
  · exact .inl rfl

@[simp] theorem takeNext_answer (l : Link) : l.takeNext.answer = l.answer := by
  obtain h | ⟨_, _, _, _, _, _, h⟩ := takeNext_cases l <;> simp [h]

@[simp] theorem takeNext_pointer (l : Link) : l.takeNext.pointer = l.pointer := by
  obtain h | ⟨_, _, _, _, _, _, h⟩ := takeNext_cases l <;> simp [h]

/-- A unit whose command completes holds the answer and keeps its pointer. -/
theorem complete_answer_pointer (st : Station) (e : Executing) (a : Answer) (r : List Byte) (l : Link) :
    (l.complete st e a r).answer = some a ∧ (l.complete st e a r).pointer = l.pointer := by
  simp only [Link.complete]
  split
  · simp
  · split <;> simp

/-- An answer goes to the link unit of the station alone, and its pointer stays. -/
theorem reply_spec (st : Station) (c : Instr) (a : Answer) (s : State) :
    OnlyLink st s (reply st c a s) ∧ ((reply st c a s).links.get st).answer = some a ∧
      ((reply st c a s).links.get st).pointer = (s.links.get st).pointer := by
  unfold reply
  dsimp only
  split
  · exact ⟨setLink_onlyLink .., by simp⟩
  · split
    · exact ⟨setLink_onlyLink .., by simpa using complete_answer_pointer ..⟩
    · exact ⟨setLink_onlyLink .., by simp⟩

theorem settleReset_eq {st : Station} {s : State} (h : NoResetDue st s) : settleReset st s = s := by
  unfold settleReset
  cases st <;> simp_all [NoResetDue]

/-- A command whose owner is reached is answered as its owner answers. -/
theorem answers_of_owner {α : Type} {i : Instr} {st : Station} {code : Nat} {a : α}
    {owner : α → State → State × Answer} {s u : State} {ans : Answer}
    (he : exec i s = .next (command st code i (.items a) owner s)) (hp : permitted code st = true)
    (hr : NoResetDue st s) (ho : owner a s = (u, ans)) : Answers i st s u ans := by
  have hc : command st code i (.items a) owner s = reply st i ans u := by
    simp [command, serve, hp, settleReset_eq hr, ho]
  obtain ⟨h1, h2, h3⟩ := reply_spec st i ans u
  exact ⟨_, by rw [he, hc], h1.1, h2, h3, h1.2⟩

/-- A byte that arrives changes the unit of its own link, and raises LINK_ERROR for that station at
most. -/
theorem receiveByte_spec (st : Station) (s : State) (b : Byte) :
    OnlyLink st s ((receiveByte st s b).withNtc s.ntc) ∧
      ((receiveByte st s b).ntc = s.ntc ∨ LinkErrorOnly st s.ntc (receiveByte st s b).ntc) := by
  have hset : ∀ l, OnlyLink st s ((setLink st l s).withNtc s.ntc) ∧
      ((setLink st l s).ntc = s.ntc ∨ LinkErrorOnly st s.ntc (setLink st l s).ntc) :=
    fun l => ⟨setLink_onlyLink st l s, .inl rfl⟩
  have hbad : OnlyLink st s ((discardFaulty st s).withNtc s.ntc) ∧
      ((discardFaulty st s).ntc = s.ntc ∨ LinkErrorOnly st s.ntc (discardFaulty st s).ntc) := by
    obtain ⟨h1, h2⟩ := raiseLinkError_spec st (setLink st (s.links.get st).hunt s)
    refine ⟨?_, .inr h1⟩
    unfold discardFaulty
    rw [show s.ntc = (setLink st (s.links.get st).hunt s).ntc from rfl, h2]
    exact setLink_onlyLink ..
  have hok : ∀ f, OnlyLink st s ((acceptFrame st f s).withNtc s.ntc) ∧
      ((acceptFrame st f s).ntc = s.ntc ∨ LinkErrorOnly st s.ntc (acceptFrame st f s).ntc) :=
    fun f => ⟨(setLink_onlyLink ..).trans (setLink_onlyLink ..), .inl rfl⟩
  have hself : OnlyLink st s (s.withNtc s.ntc) ∧ (s.ntc = s.ntc ∨ LinkErrorOnly st s.ntc s.ntc) :=
    ⟨⟨rfl, fun _ _ => rfl⟩, .inl rfl⟩
  unfold receiveByte completeFrame
  dsimp only
  split
  · split
    · split
      · exact hset _
      · exact hself
    · split
      · exact hset _
      · split
        · exact hbad
        · split
          · split
            · split
              · exact hset _
              · exact hbad
            · split
              · exact hbad
              · split
                · exact hok _
                · exact hset _
          · exact hset _
  · exact hself

/-! ### The reservation and the dispatcher -/

/-- A standing reservation is lost with RES_LOST; without one nothing changes. -/
theorem loseReservation_spec (s : State) :
    (loseReservation s).phu = none ∧
      Raises (kindIf (s.phu.isSome = true) .resLost) s.ntc (loseReservation s).ntc ∧
      ((loseReservation s).withPhu s.phu).withNtc s.ntc = s := by
  unfold loseReservation
  split
  · rename_i r h
    refine ⟨rfl, ?_, ?_⟩
    · simpa [kindIf, h] using (raise_spec .resLost (s.withPhu none)).1
    · simp [raise]; rfl
  · rename_i h
    exact ⟨h, by simpa [kindIf, h] using Raises.refl s.ntc, rfl⟩

/-- A dispatcher in RUN is blocked with its grants, setpoints and total demand 0. -/
theorem dispatcherBlocks_spec (s : State) :
    dispatcherBlocks s =
      s.withDsp
        (if s.dsp.state = .run then
          { s.dsp with
            state := .blocked, grants := .const 0, setpoints := .const 0, totalDemand := 0 }
         else s.dsp) := by
  unfold dispatcherBlocks haltHeating
  split <;> simp [*]

/-- A BLOCKED dispatcher with PERMIT goes back to RUN. -/
theorem dispatcherUnblocks_spec (s : State) : dispatcherUnblocks s = s.withDsp (leftUncertain s) := by
  unfold dispatcherUnblocks leftUncertain
  split <;> rfl

/-! ### Lots -/

/-- The model's test for a closed lot is the rule's. -/
theorem lotCloses_iff (s : State) (l : Lot) : lotCloses s l = true ↔ LotEnds s.trk l := by
  simp only [lotCloses, LotEnds, lotInTrack, lotPending, Bool.and_eq_true, beq_iff_eq,
    Nat.add_eq_zero_iff, List.countP_eq_zero, Bool.not_eq_true', Option.any_eq_false,
    beq_eq_false_iff_ne]
  constructor
  · rintro ⟨⟨h1, h2, h3⟩, h4⟩
    exact ⟨h1, fun b hb => by simpa using h2 b hb, fun g hg => by simpa using h3 g hg,
      fun p hp => by simpa using h4 p hp⟩
  · rintro ⟨h1, h2, h3, h4⟩
    exact ⟨⟨h1, fun b hb => by simpa using h2 b hb, fun g hg => by simpa using h3 g hg⟩,
      fun p hp => by simpa using h4 p hp⟩

/-- Every ended lot leaves the queue, the newest of them is the last closed, and LOT_CLOSED is raised when
there is one. -/
theorem closeLots_spec (s : State) :
    (closeLots s).lot = testedLots s.trk s.lot ∧
      Raises (kindIf (endedLots s.trk s.lot.queue ≠ []) .lotClosed) s.ntc (closeLots s).ntc ∧
      ((closeLots s).withLot s.lot).withNtc s.ntc = s := by
  have hf : ∀ q : List Lot, q.filter (lotCloses s) = endedLots s.trk q := by
    intro q
    exact List.filter_congr fun l _ => by rw [Bool.eq_iff_iff]; simp [lotCloses_iff]
  have hn : ∀ q : List Lot,
      (q.filter fun l => !lotCloses s l) = q.filter fun l => decide (¬LotEnds s.trk l) := by
    intro q
    exact List.filter_congr fun l _ => by
      rw [Bool.eq_iff_iff]; simp only [Bool.not_eq_true', decide_eq_true_eq, ← lotCloses_iff]; simp
  unfold closeLots
  rw [hf]
  split
  · rename_i h
    have h0 : endedLots s.trk s.lot.queue = [] := by simpa using h
    refine ⟨?_, by simpa [kindIf, h0] using Raises.refl s.ntc, rfl⟩
    have hq : (s.lot.queue.filter fun l => decide (¬LotEnds s.trk l)) = s.lot.queue := by
      rw [List.filter_eq_self]
      intro l hl
      have hl' := List.filter_eq_nil_iff.1 h0 l hl
      exact decide_eq_true fun he => hl' (decide_eq_true he)
    unfold testedLots
    rw [hq, h0]
    rfl
  · rename_i last h
    have h0 : endedLots s.trk s.lot.queue ≠ [] := by intro h1; simp [h1] at h
    refine ⟨?_, ?_, ?_⟩
    · unfold testedLots
      rw [h, ← hn]
      rfl
    · simpa [kindIf, h0] using
        (raise_spec .lotClosed
          (s.withLot
            { s.lot with
              queue := s.lot.queue.filter fun l => !lotCloses s l
              lastClosed := some last })).1
    · simp [raise]; rfl

/-! ### The gate front -/

/-- An empty gate written back changes nothing. -/
theorem emptyGate_writeBack (t : Track) (h : t.gate = []) : t = { t with gate := [] } := by
  cases t
  cases h
  rfl

/-- A new front is timed from now; an empty gate stops the timers. -/
theorem reportFront_spec (s : State) :
    (reportFront s).trk =
        { s.trk with
          gate :=
            match s.trk.gate with
            | [] => []
            | g :: rest => { g with frontTime := some s.ms } :: rest } ∧
      (reportFront s).evu = (if s.trk.gate = [] then emptyGate else timedFront s.ms) ∧
      ((reportFront s).withTrk s.trk).withEvu s.evu = s := by
  cases h : s.trk.gate with
  | nil =>
    have hr : reportFront s = s.withEvu emptyGate := by
      unfold reportFront
      rw [h]
      rfl
    rw [hr]
    exact ⟨emptyGate_writeBack s.trk h, by simp, rfl⟩
  | cons g rest =>
    have hr : reportFront s =
        (s.withTrk { s.trk with gate := { g with frontTime := some s.ms } :: rest }).withEvu
          (timedFront s.ms) := by
      unfold reportFront
      rw [h]
      rfl
    rw [hr]
    exact ⟨by simp, by simp, rfl⟩

/-! ### Pushes -/

/-- What LOT counts at an applied push. -/
theorem countApplied_eq (recipe lot : Nat) (s : State) :
    countApplied recipe lot s =
      s.withLot
        (if recipe = 0 then { s.lot with spacers := min 255 (s.lot.spacers + 1) }
         else
          { s.lot with
            queue :=
              s.lot.queue.map fun l =>
                if l.number = lot then { l with toLoad := l.toLoad - 1, loaded := l.loaded + 1 } else l
            spacers := 0
            lastRecipe := some recipe }) := by
  unfold countApplied
  split <;> rfl

/-- An applied push moves the track, is counted by its lot, and times a front that comes onto an empty
gate. -/
theorem applyPush_spec (p : PendingPush) (est : EstimateState) (s : State) :
    PushApplied p est s (applyPush p est s) ∧
      (((applyPush p est s).withTrk s.trk).withEvu s.evu).withLot s.lot = s := by
  have hstay : (s.trk.row.filter fun b => !pushedOut s p.length b) = staying s p.length := by
    refine List.filter_congr fun b _ => ?_
    simp [pushedOut, ← decide_not]
  have hleave : s.trk.row.filter (pushedOut s p.length) = leaving s p.length := rfl
  have hmoved : movedBy s p.length = (leaving s p.length).length := by
    rw [movedBy, List.countP_eq_length_filter, hleave]
  have hlot := countApplied_eq p.recipe p.lot (s.withTrk (pushedTrack s p est))
  simp only [State.withTrk_lot] at hlot
  generalize hx : (if p.recipe = 0 then { s.lot with spacers := min 255 (s.lot.spacers + 1) }
    else
      { s.lot with
        queue :=
          s.lot.queue.map fun l =>
            if l.number = p.lot then { l with toLoad := l.toLoad - 1, loaded := l.loaded + 1 } else l
        spacers := 0
        lastRecipe := some p.recipe } : Lots) = lots at hlot
  unfold applyPush
  rw [hlot]
  dsimp only
  split
  · rename_i h
    obtain ⟨h0, h1⟩ : s.trk.gate = [] ∧ leaving s p.length ≠ [] := by
      simpa [hmoved, List.length_pos_iff] using h
    obtain ⟨r1, r2, r3⟩ :=
      reportFront_spec ((s.withTrk (pushedTrack s p est)).withLot lots)
    have hgate : (pushedTrack s p est).gate = (leaving s p.length).map toGate := by
      simp [pushedTrack, h0, hleave]
    obtain ⟨b, rest, hb⟩ := List.exists_cons_of_ne_nil h1
    generalize reportFront ((s.withTrk (pushedTrack s p est)).withLot lots) = u at r1 r2 r3
    refine ⟨⟨?_, ?_, ?_⟩, ?_⟩
    · rw [r1]
      simp only [State.withLot_trk, State.withTrk_trk, State.withLot_ms, State.withTrk_ms]
      rw [hgate, hb]
      simp [pushedTrack, hstay, h0, arrivedGate, toGate, newBillet, Marks.none,
        nextGeneration]
    · have hne : ((s.withTrk (pushedTrack s p est)).withLot lots).trk.gate ≠ [] := by
        show (pushedTrack s p est).gate ≠ []
        simp [hgate, hb]
      rw [r2, if_neg hne, if_pos ⟨h0, h1⟩]
      rfl
    · rw [hx]
      exact (congrArg State.lot r3 :)
    · have h4 := congrArg (fun y => (y.withTrk s.trk).withLot s.lot) r3
      exact h4
  · rename_i h
    have hno : ¬(s.trk.gate = [] ∧ leaving s p.length ≠ []) := by
      simpa [hmoved, List.length_pos_iff] using h
    refine ⟨⟨?_, ?_, hx.symm⟩, rfl⟩
    · have harr : arrivedGate s.ms s.trk.gate (leaving s p.length) =
          s.trk.gate ++ (leaving s p.length).map toGate := by
        cases h1 : s.trk.gate with
        | nil =>
          cases h2 : leaving s p.length with
          | nil => rfl
          | cons b rest => exact absurd ⟨h1, by rw [h2]; exact List.cons_ne_nil _ _⟩ hno
        | cons g rest => rfl
      rw [harr, State.withLot_trk, State.withTrk_trk]
      unfold pushedTrack
      rw [hstay, hleave]
      rfl
    · rw [if_neg hno]
      rfl

/-- A dropped push leaves the track IDLE, and the lots are tested for closing. -/
theorem dropPush_spec (s : State) :
    (dropPush s).trk = { s.trk with push := none, state := .idle, timer := none } ∧
      (dropPush s).lot = testedLots (dropPush s).trk s.lot ∧
      Raises (kindIf (endedLots (dropPush s).trk s.lot.queue ≠ []) .lotClosed) s.ntc
        (dropPush s).ntc ∧
      (((dropPush s).withTrk s.trk).withLot s.lot).withNtc s.ntc = s := by
  obtain ⟨h1, h2, h3⟩ :=
    closeLots_spec (s.withTrk { s.trk with push := none, state := .idle, timer := none })
  have ht : (dropPush s).trk = { s.trk with push := none, state := .idle, timer := none } :=
    congrArg State.trk h3
  refine ⟨ht, by rw [ht]; exact h1, by rw [ht]; exact h2, ?_⟩
  exact congrArg (fun x => x.withTrk s.trk) h3

/-- The track becomes UNCERTAIN: every row record UNTRACKED, the timer stopped, the notices raised, a
dispatcher in RUN blocked. -/
theorem enterUncertain_spec (s : State) : EntersUncertain s (enterUncertain s) := by
  unfold enterUncertain
  dsimp only
  rw [dispatcherBlocks_spec]
  generalize hb : (s.trk.row.any fun b => b.estimate == .tracked) = b
  generalize ht : ({ s.trk with
      row := s.trk.row.map fun b => { b with estimate := .untracked }
      state := .uncertain
      timer := none } : Track) = trk
  obtain ⟨a1, a2⟩ := raise_spec .trackUncertain (s.withTrk trk)
  obtain ⟨b1, b2⟩ := raiseIf_spec b .untracked (raise .trackUncertain (s.withTrk trk))
  have hk : kindIf (b = true) .untracked =
      kindIf (∃ b ∈ s.trk.row, b.estimate = .tracked) .untracked := by
    unfold kindIf
    congr 1
    simp [← hb]
  have hd : (raiseIf b .untracked (raise .trackUncertain (s.withTrk trk))).dsp = s.dsp := by
    cases b <;> rfl
  have htrk : (raiseIf b .untracked (raise .trackUncertain (s.withTrk trk))).trk = trk := by
    cases b <;> rfl
  refine ⟨by simp [htrk, ht], ?_, by simp [hd], ?_⟩
  · simpa [hk] using a1.trans b1
  · cases b <;> rfl

/-! ### Removal at the gate -/

/-- An accepted removal of the gate front: the second record becomes the front, the reservation goes
without notice, the lot counts and is tested for closing, the dispatcher notes the handover, and
GATE_SPACE is raised. -/
theorem handOver_spec (count : Lot → Lot) (g : GateBillet) (rest : List GateBillet) (s : State)
    (h : s.trk.gate = g :: rest) : HandedOver count g s (handOver count g.billet s) := by
  have hr : removeFront s = (s.withTrk
      { s.trk with
        gate := advancedGate s.ms s.trk.gate
        generation := (s.trk.generation + 1) % 65536 }).withEvu
      (if s.trk.gate.tail = [] then emptyGate else timedFront s.ms) := by
    unfold removeFront reportFront
    cases rest with
    | nil => simp [h, advancedGate, emptyGate, nextGeneration]
    | cons x xs => simp [h, advancedGate, timedFront, nextGeneration]
  generalize hc : (if g.billet.recipe = 0 then s.lot.queue
      else s.lot.queue.map fun l => if l.number = g.billet.lot then count l else l) = queue
  have hcount : countRemoved count g.billet ((removeFront s).withPhu none) =
      ((removeFront s).withPhu none).withLot { s.lot with queue := queue } := by
    unfold countRemoved
    split
    · rename_i h0
      rw [hr]
      simp only [h0, if_true] at hc
      rw [← hc]; rfl
    · rename_i h0
      rw [hr]
      simp only [h0, if_false] at hc
      rw [← hc]; rfl
  unfold handOver
  rw [hcount]
  generalize hx : ((removeFront s).withPhu none).withLot { s.lot with queue := queue } = x
  obtain ⟨c1, c2, c3⟩ := closeLots_spec x
  have ht : (closeLots x).trk = x.trk := (congrArg State.trk c3 :)
  have he : (closeLots x).evu = x.evu := (congrArg State.evu c3 :)
  have hp : (closeLots x).phu = x.phu := (congrArg State.phu c3 :)
  have hd : (closeLots x).dsp = x.dsp := (congrArg State.dsp c3 :)
  have hm : (closeLots x).ms = x.ms := (congrArg State.ms c3 :)
  have hall : closeLots x = (x.withLot (closeLots x).lot).withNtc (closeLots x).ntc := by
    generalize closeLots x = y at c3
    rw [← c3]
    rfl
  rw [hr] at hx
  have hxn : x.ntc = s.ntc := by rw [← hx]; rfl
  have hxt : x.trk = { s.trk with
        gate := advancedGate s.ms s.trk.gate
        generation := (s.trk.generation + 1) % 65536 } := by rw [← hx]; rfl
  refine ⟨?_, ?_, ?_, ?_, ⟨queue, hc.symm, ?_, ?_⟩, ?_⟩
  · exact (ht.trans hxt :)
  · refine (he.trans ?_ :)
    rw [← hx]
    rfl
  · refine (hp.trans ?_ :)
    rw [← hx]
    rfl
  · show ({ (closeLots x).dsp with lastHandover := (closeLots x).ms, inferred := false } : Dispatcher) = _
    rw [hd, hm, ← hx]
    rfl
  · show (closeLots x).lot = testedLots (closeLots x).trk _
    rw [c1, ht, ← hx]
    rfl
  · have h1 := (raise_spec .gateSpace (noteHandover (closeLots x))).1
    have h2 : Raises _ s.ntc (noteHandover (closeLots x)).ntc := hxn ▸ c2
    have h3 := h2.trans h1
    have h4 : (raise .gateSpace (noteHandover (closeLots x))).trk = x.trk := ht
    rw [h4, BitVec.or_comm]
    have h5 : x.lot.queue = queue := by rw [← hx]; rfl
    rwa [h5] at h3
  · obtain ⟨l, n, hall⟩ : ∃ l n, closeLots x = (x.withLot l).withNtc n := ⟨_, _, hall⟩
    rw [hall, ← hx]
    generalize (if s.trk.gate.tail = [] then emptyGate else timedFront s.ms) = v
    simp only [raise, noteHandover, State.withTrk, State.withEvu, State.withPhu, State.withDsp,
      State.withLot, State.withNtc]

/-! ### Rounds -/

/-- A set handed begins a round when none is in progress, and else becomes the waiting set. -/
theorem handSet_spec (d : DispatchSet) (s : State) :
    (s.ilc.round = none →
      (handSet d s).ilc =
          { s.ilc with
            round :=
              some
                { carried := d
                  poll :=
                    { channel := .z1
                      setpoint := if s.zones.z1.state = .active then d.setpoints.z1 else 0
                      ack := s.ilc.ack.z1
                      spoiled := false } }
            entries := .const none } ∧
        (∀ z, (handSet d s).zones.get z = { s.zones.get z with lastGrant := d.grants.get z })) ∧
    (s.ilc.round ≠ none →
      (handSet d s).ilc = { s.ilc with waiting := some d } ∧ (handSet d s).zones = s.zones) ∧
    ((handSet d s).withIlc s.ilc).withZones s.zones = s := by
  cases h : s.ilc.round with
  | none =>
    have hs : handSet d s = beginRound d s := by
      unfold handSet
      rw [h]
    rw [hs]
    refine ⟨fun _ => ⟨?_, fun z => ?_⟩, fun h' => absurd rfl h', ?_⟩
    · simp [beginRound, sendPoll, pollOf, PerZone.get, PerZone.tabulate]
      rfl
    · simp [beginRound, sendPoll]
    · simp [beginRound, sendPoll, State.withIlc, State.withZones]
  | some rd =>
    have hs : handSet d s = s.withIlc { s.ilc with waiting := some d } := by
      unfold handSet
      rw [h]
    rw [hs]
    exact ⟨fun h' => by simp at h', fun _ => ⟨by simp [h], by simp⟩,
      by simp [State.withIlc, State.withZones]⟩

/-- A stored zone record replaces the zone's, and ZONE_FAULT is raised when the zone enters FAULT. -/
theorem storeZone_spec (z : ZoneNo) (r : ZoneRecord) (s : State) :
    (storeZone z r s).zones = s.zones.set z r ∧
      Raises (kindIf (r.state = .fault ∧ (s.zones.get z).state ≠ .fault) .zoneFault) s.ntc
        (storeZone z r s).ntc ∧
      ((storeZone z r s).withZones s.zones).withNtc s.ntc = s := by
  unfold storeZone
  generalize hb : (r.state == .fault && (s.zones.get z).state != .fault) = b
  have hk : kindIf (b = true) .zoneFault =
      kindIf (r.state = .fault ∧ (s.zones.get z).state ≠ .fault) .zoneFault := by
    unfold kindIf
    congr 1
    simp [← hb]
  obtain ⟨h1, h2⟩ := raiseIf_spec b .zoneFault (s.withZones (s.zones.set z r))
  refine ⟨by cases b <;> rfl, by simpa [hk] using h1, by cases b <;> rfl⟩

/-! ### Pyrometer inputs -/

@[simp] theorem pyroInput_setPyro (src : Pyro) (p : PyroInput) (s : State) :
    pyroInput (setPyro src p s) src = p := by
  cases src <;> rfl

/-- A byte is discarded by a hunting input, lengthens the partial frame, or completes a frame, which is then a
sample or dropped by the sum of its bytes. -/
theorem receiveSampleByte_spec (src : Pyro) (s : State) (b : Byte) :
    let frame := (pyroInput s src).frame ++ [b]
    receiveSampleByte src s b =
      if (pyroInput s src).frame = [] ∧ b ≠ 0xC3 then s
      else if frame.length < 4 then setPyro src { pyroInput s src with frame := frame } s
      else if byteSum frame = 0 then takeSample src (sampleValue frame) s
      else huntPyro src s := by
  cases h : (pyroInput s src).frame with
  | nil => by_cases hb : b = 0xC3 <;> simp [receiveSampleByte, h, hb]
  | cons start more => simp [receiveSampleByte, h]

/-! ### Replies and handed work -/

theorem hasReplied_iff (s : State) (n : Nat) :
    hasReplied s n = true ↔ ∃ z : ZoneNo, n = z.number ∧ s.ilc.replied.get z = true := by
  unfold hasReplied
  constructor
  · intro h
    cases hz : ZoneNo.ofNumber n with
    | none => simp [hz] at h
    | some z =>
      rw [hz] at h
      refine ⟨z, ?_, by simpa using h⟩
      unfold ZoneNo.ofNumber at hz
      split at hz <;> cases hz <;> rfl
  · rintro ⟨z, rfl, h⟩
    cases z <;> exact h

/-- The item taken leaves the queue when it heads the queue. -/
theorem dropTaken_eq {α : Type} [DecidableEq α] (a : α) (l : List α) :
    dropTaken a l = if l.head? = some a then l.tail else l := by
  cases l with
  | nil => simp [dropTaken]
  | cons x xs => simp [dropTaken]

/-! ### The exit verdict -/

/-- A re-evaluated front holds the verdict that the lines of R102 give it when it was READY or UNDER, and
its own otherwise; the front's other items stay. -/
theorem reevaluate_spec (s : State) (g : GateBillet) (rest : List GateBillet)
    (h : s.trk.gate = g :: rest) :
    (reevaluate s).trk =
      { s.trk with
        gate :=
          { g with verdict := if g.verdict.provisional = true then evaluateFront s g else g.verdict }
            :: rest } := by
  have hg : gateFront s = some g := by simp [gateFront, h]
  unfold reevaluate
  rw [hg]
  dsimp only
  split
  · rename_i hp
    split
    · rename_i hv
      simp [hv, ← h]
    · unfold changeVerdict frontLeftReady loseReservation setGateFront
      rw [h]
      dsimp only
      repeat' split
      all_goals rfl
  · simp [← h]

end Sys2Proof.Machine
end

