-- ==== Sys2Proof/Laws/PerInstr.lean ====
section
/-! SUPPORT. One lemma for each command and event: a code that a row has is in the command table of R150,
and exactly the rows with a code, and UNKNOWN_COMMAND, come from a station. -/

namespace Sys2Proof.Laws.CodeListed

/-- The code of a command is in the command table, and a row has a station exactly when it has a code or is
UNKNOWN_COMMAND (R150). -/
def Statement (i : Instr) : Prop :=
  (∀ code, i.code = some code → (commandRow code).isSome = true) ∧
    (i.station.isSome = true ↔ i.code.isSome = true ∨ ∃ st cmd, i = .unknownCommand st cmd)

theorem powerOnReset (straps : BitVec 4) : Statement (.powerOnReset straps) :=
  ⟨fun _ h => (nomatch h), fun h => (nomatch h),
    fun h => h.elim (fun h => (nomatch h)) fun ⟨_, _, h⟩ => (nomatch h)⟩

theorem linkBreak (st : Station) : Statement (.linkBreak st) :=
  ⟨fun _ h => (nomatch h), fun h => (nomatch h),
    fun h => h.elim (fun h => (nomatch h)) fun ⟨_, _, h⟩ => (nomatch h)⟩

theorem pressLinkReset : Statement (.pressLinkReset) :=
  ⟨fun _ h => (nomatch h), fun h => (nomatch h),
    fun h => h.elim (fun h => (nomatch h)) fun ⟨_, _, h⟩ => (nomatch h)⟩

theorem frameReceived (st : Station) (bytes : List Byte) : Statement (.frameReceived st bytes) :=
  ⟨fun _ h => (nomatch h), fun h => (nomatch h),
    fun h => h.elim (fun h => (nomatch h)) fun ⟨_, _, h⟩ => (nomatch h)⟩

theorem frameGapTimeout (st : Station) : Statement (.frameGapTimeout st) :=
  ⟨fun _ h => (nomatch h), fun h => (nomatch h),
    fun h => h.elim (fun h => (nomatch h)) fun ⟨_, _, h⟩ => (nomatch h)⟩

theorem unknownCommand (st : Station) (cmd : Byte) : Statement (.unknownCommand st cmd) :=
  ⟨fun _ h => (nomatch h), fun _ => .inr ⟨_, _, rfl⟩, fun _ => rfl⟩

theorem replyStart : Statement (.replyStart) :=
  ⟨fun _ h => (nomatch h), fun h => (nomatch h),
    fun h => h.elim (fun h => (nomatch h)) fun ⟨_, _, h⟩ => (nomatch h)⟩

theorem replySent (st : Station) : Statement (.replySent st) :=
  ⟨fun _ h => (nomatch h), fun h => (nomatch h),
    fun h => h.elim (fun h => (nomatch h)) fun ⟨_, _, h⟩ => (nomatch h)⟩

theorem noticeRead (st : Station) (p : Sent Unit) : Statement (.noticeRead st p) :=
  ⟨by rintro _ ⟨⟩; decide, fun _ => .inl rfl, fun _ => rfl⟩

theorem noticeClear (st : Station) (p : Sent (BitVec 16)) : Statement (.noticeClear st p) :=
  ⟨by rintro _ ⟨⟩; decide, fun _ => .inl rfl, fun _ => rfl⟩

theorem noticeMask (st : Station) (p : Sent (BitVec 16)) : Statement (.noticeMask st p) :=
  ⟨by rintro _ ⟨⟩; decide, fun _ => .inl rfl, fun _ => rfl⟩

theorem examine (st : Station) (p : Sent AddressForm) : Statement (.examine st p) :=
  ⟨by rintro _ ⟨⟩; decide, fun _ => .inl rfl, fun _ => rfl⟩

theorem deposit (st : Station) (p : Sent DepositArgs) : Statement (.deposit st p) :=
  ⟨by rintro _ ⟨⟩; decide, fun _ => .inl rfl, fun _ => rfl⟩

theorem loadRecipe (st : Station) (p : Sent LoadArgs) : Statement (.loadRecipe st p) :=
  ⟨by rintro _ ⟨⟩; decide, fun _ => .inl rfl, fun _ => rfl⟩

theorem map (st : Station) (p : Sent MapArgs) : Statement (.map st p) :=
  ⟨by rintro _ ⟨⟩; decide, fun _ => .inl rfl, fun _ => rfl⟩

theorem billet (st : Station) (p : Sent Nat) : Statement (.billet st p) :=
  ⟨by rintro _ ⟨⟩; decide, fun _ => .inl rfl, fun _ => rfl⟩

theorem classify (st : Station) (p : Sent (BitVec 16)) : Statement (.classify st p) :=
  ⟨by rintro _ ⟨⟩; decide, fun _ => .inl rfl, fun _ => rfl⟩

theorem pushRequest (st : Station) (p : Sent PushArgs) : Statement (.pushRequest st p) :=
  ⟨by rintro _ ⟨⟩; decide, fun _ => .inl rfl, fun _ => rfl⟩

theorem pushDone (st : Station) (p : Sent PushDoneArgs) : Statement (.pushDone st p) :=
  ⟨by rintro _ ⟨⟩; decide, fun _ => .inl rfl, fun _ => rfl⟩

theorem pushCancel (st : Station) (p : Sent Nat) : Statement (.pushCancel st p) :=
  ⟨by rintro _ ⟨⟩; decide, fun _ => .inl rfl, fun _ => rfl⟩

theorem pushTimerExpiry : Statement (.pushTimerExpiry) :=
  ⟨fun _ h => (nomatch h), fun h => (nomatch h),
    fun h => h.elim (fun h => (nomatch h)) fun ⟨_, _, h⟩ => (nomatch h)⟩

theorem resync (st : Station) (p : Sent Nat) : Statement (.resync st p) :=
  ⟨by rintro _ ⟨⟩; decide, fun _ => .inl rfl, fun _ => rfl⟩

theorem purge (st : Station) (p : Sent Unit) : Statement (.purge st p) :=
  ⟨by rintro _ ⟨⟩; decide, fun _ => .inl rfl, fun _ => rfl⟩

theorem reserve (st : Station) (p : Sent Unit) : Statement (.reserve st p) :=
  ⟨by rintro _ ⟨⟩; decide, fun _ => .inl rfl, fun _ => rfl⟩

theorem take (st : Station) (p : Sent Nat) : Statement (.take st p) :=
  ⟨by rintro _ ⟨⟩; decide, fun _ => .inl rfl, fun _ => rfl⟩

theorem discard (st : Station) (p : Sent Nat) : Statement (.discard st p) :=
  ⟨by rintro _ ⟨⟩; decide, fun _ => .inl rfl, fun _ => rfl⟩

theorem cadence (st : Station) (p : Sent Nat) : Statement (.cadence st p) :=
  ⟨by rintro _ ⟨⟩; decide, fun _ => .inl rfl, fun _ => rfl⟩

theorem run (st : Station) (p : Sent Unit) : Statement (.run st p) :=
  ⟨by rintro _ ⟨⟩; decide, fun _ => .inl rfl, fun _ => rfl⟩

theorem stop (st : Station) (p : Sent Unit) : Statement (.stop st p) :=
  ⟨by rintro _ ⟨⟩; decide, fun _ => .inl rfl, fun _ => rfl⟩

theorem zoneRestore (st : Station) (p : Sent Nat) : Statement (.zoneRestore st p) :=
  ⟨by rintro _ ⟨⟩; decide, fun _ => .inl rfl, fun _ => rfl⟩

theorem dispatchStatus (st : Station) (p : Sent Unit) : Statement (.dispatchStatus st p) :=
  ⟨by rintro _ ⟨⟩; decide, fun _ => .inl rfl, fun _ => rfl⟩

theorem lotOpen (st : Station) (p : Sent LotOpenArgs) : Statement (.lotOpen st p) :=
  ⟨by rintro _ ⟨⟩; decide, fun _ => .inl rfl, fun _ => rfl⟩

theorem lotAdjust (st : Station) (p : Sent (BitVec 8)) : Statement (.lotAdjust st p) :=
  ⟨by rintro _ ⟨⟩; decide, fun _ => .inl rfl, fun _ => rfl⟩

theorem lotAbort (st : Station) (p : Sent Unit) : Statement (.lotAbort st p) :=
  ⟨by rintro _ ⟨⟩; decide, fun _ => .inl rfl, fun _ => rfl⟩

theorem lotStatus (st : Station) (p : Sent Unit) : Statement (.lotStatus st p) :=
  ⟨by rintro _ ⟨⟩; decide, fun _ => .inl rfl, fun _ => rfl⟩

theorem permitLost : Statement (.permitLost) :=
  ⟨fun _ h => (nomatch h), fun h => (nomatch h),
    fun h => h.elim (fun h => (nomatch h)) fun ⟨_, _, h⟩ => (nomatch h)⟩

theorem permitPresent : Statement (.permitPresent) :=
  ⟨fun _ h => (nomatch h), fun h => (nomatch h),
    fun h => h.elim (fun h => (nomatch h)) fun ⟨_, _, h⟩ => (nomatch h)⟩

theorem dispatchTimerExpiry : Statement (.dispatchTimerExpiry) :=
  ⟨fun _ h => (nomatch h), fun h => (nomatch h),
    fun h => h.elim (fun h => (nomatch h)) fun ⟨_, _, h⟩ => (nomatch h)⟩

theorem inverterReply (r : InverterFrame) : Statement (.inverterReply r) :=
  ⟨fun _ h => (nomatch h), fun h => (nomatch h),
    fun h => h.elim (fun h => (nomatch h)) fun ⟨_, _, h⟩ => (nomatch h)⟩

theorem replyWindowClose : Statement (.replyWindowClose) :=
  ⟨fun _ h => (nomatch h), fun h => (nomatch h),
    fun h => h.elim (fun h => (nomatch h)) fun ⟨_, _, h⟩ => (nomatch h)⟩

theorem roundRecord (r : RoundRecord) : Statement (.roundRecord r) :=
  ⟨fun _ h => (nomatch h), fun h => (nomatch h),
    fun h => h.elim (fun h => (nomatch h)) fun ⟨_, _, h⟩ => (nomatch h)⟩

theorem pyrometerSample (src : Pyro) (bytes : List Byte) : Statement (.pyrometerSample src bytes) :=
  ⟨fun _ h => (nomatch h), fun h => (nomatch h),
    fun h => h.elim (fun h => (nomatch h)) fun ⟨_, _, h⟩ => (nomatch h)⟩

theorem pyroByteTimeout (src : Pyro) : Statement (.pyroByteTimeout src) :=
  ⟨fun _ h => (nomatch h), fun h => (nomatch h),
    fun h => h.elim (fun h => (nomatch h)) fun ⟨_, _, h⟩ => (nomatch h)⟩

theorem measurementCorrection (c : Correction) : Statement (.measurementCorrection c) :=
  ⟨fun _ h => (nomatch h), fun h => (nomatch h),
    fun h => h.elim (fun h => (nomatch h)) fun ⟨_, _, h⟩ => (nomatch h)⟩

theorem settleTimerExpiry : Statement (.settleTimerExpiry) :=
  ⟨fun _ h => (nomatch h), fun h => (nomatch h),
    fun h => h.elim (fun h => (nomatch h)) fun ⟨_, _, h⟩ => (nomatch h)⟩

theorem waitTimerExpiry : Statement (.waitTimerExpiry) :=
  ⟨fun _ h => (nomatch h), fun h => (nomatch h),
    fun h => h.elim (fun h => (nomatch h)) fun ⟨_, _, h⟩ => (nomatch h)⟩

theorem lapseTimerExpiry : Statement (.lapseTimerExpiry) :=
  ⟨fun _ h => (nomatch h), fun h => (nomatch h),
    fun h => h.elim (fun h => (nomatch h)) fun ⟨_, _, h⟩ => (nomatch h)⟩

theorem frameStart (st : Station) : Statement (.frameStart st) :=
  ⟨fun _ h => (nomatch h), fun h => (nomatch h),
    fun h => h.elim (fun h => (nomatch h)) fun ⟨_, _, h⟩ => (nomatch h)⟩

theorem parityError (st : Station) : Statement (.parityError st) :=
  ⟨fun _ h => (nomatch h), fun h => (nomatch h),
    fun h => h.elim (fun h => (nomatch h)) fun ⟨_, _, h⟩ => (nomatch h)⟩

theorem breakEnd (st : Station) : Statement (.breakEnd st) :=
  ⟨fun _ h => (nomatch h), fun h => (nomatch h),
    fun h => h.elim (fun h => (nomatch h)) fun ⟨_, _, h⟩ => (nomatch h)⟩

theorem sampleFrameStart (src : Pyro) : Statement (.sampleFrameStart src) :=
  ⟨fun _ h => (nomatch h), fun h => (nomatch h),
    fun h => h.elim (fun h => (nomatch h)) fun ⟨_, _, h⟩ => (nomatch h)⟩

theorem droppedFrame (src : Pyro) : Statement (.droppedFrame src) :=
  ⟨fun _ h => (nomatch h), fun h => (nomatch h),
    fun h => h.elim (fun h => (nomatch h)) fun ⟨_, _, h⟩ => (nomatch h)⟩

end Sys2Proof.Laws.CodeListed
end

