-- ==== Sys2Proof/Tests/Slice0.lean ====
section
/-! SUPPORT. Tests: ill-formed commands are refused, request frames written out from R150 decode, the worked
examples of the spec come out, and the hypotheses of every statement can be met. Each expected value is
from the spec, as the comment beside it says. -/

namespace Sys2Proof.Tests

open Sys2Proof.Machine

-- One theorem at a time: in parallel the kernel evaluations wait for one another, each on a thread.
set_option Elab.async false

/-! ### Small states -/

/-- The state after a command or event. -/
def after (i : Instr) (s : State) : State :=
  match exec i s with
  | .next t => t
  | .fault _ => s
  | .refused _ => s

/-- What a station is answered. -/
def answered (i : Instr) (st : Station) (s : State) : Option Answer :=
  ((after i s).links.get st).answer

/-- Recipe 5 of the worked examples (chapters 2, 3, 5 and 7). -/
def recipe5 : RecipeFields :=
  { cap := 13300, surf := 64, skin := 160, cond := 40, loss := 3, lnom := 150
    tz :=
      { z1 := 4000, z2 := 6000, z3 := 8000, z4 := 9000, z5 := 10000, z6 := 11000, z7 := 11500,
        z8 := 12000 }
    tsLo := 11500, tsHi := 12200, tcMin := 11000, tsMax := 12500, holdT := 7000, holdH := 30
    maxDwell := 1200, spacers := 1, acceptMeasured := 0 }

/-- A TRACKED billet of recipe 5 and lot 14. -/
def steel (tag length trailing ts tc : Nat) : Billet :=
  { tag := tag, recipe := 5, lot := 14, length := length, trailing := trailing, entryTemp := 200
    ts := ts, tc := tc, estimate := .tracked, marks := Marks.none, entryTime := 0, energy := 0
    measurement := none }

/-- Lot 14, LOADING. -/
def lot14 : Lot :=
  { number := 14, recipe := 5, toLoad := 4, loaded := 3, forged := 0, rejected := 0, lost := 0 }

/-- An ACTIVE zone of 400 mm. -/
def heater : ZoneRecord :=
  { ZoneRecord.reset with rating := some 400000, enable := true, state := .active }

/-- PERMIT present, recipe 5 VALID and open as lot 14, and a budget. -/
def plant : State :=
  ((((storeRecipe 5 { fields := recipe5, written := BitVec.allOnes 23 } State.reset).withPermit
    true).withLot { State.reset.lot with queue := [lot14], nextNumber := 15, lastRecipe := some 5 }).withZones
      (.const heater))

/-- `plant` with a row and a gate, the gate front decided. -/
def loaded (v : Verdict) : State :=
  (plant.withTrk
    { plant.trk with
      row := [steel 22 500 450 6000 5500, steel 27 450 0 200 200]
      gate := [{ billet := steel 47 150 2900 11975 11150, verdict := v, frontTime := some 0 }]
      generation := 118 }).withEvu { phase := .decided, settle := none, wait := none, exitM := some 12050 }

/-- `loaded` with the front reserved. -/
def reserved : State := (loaded .ready).withPhu (some { tag := 47, lapse := 4000 })

/-- The pending push of tag 28. -/
def push28 : PendingPush :=
  { tag := 28, recipe := 5, lot := 14, length := 500, entryTemp := 200, grantTime := 0 }

/-- `reserved` with the push of tag 28 granted, in a track state. -/
def pushing (x : TrackState) : State :=
  reserved.withTrk
    { reserved.trk with
      push := some push28, state := x, timer := if x = .pushing then some 10000 else none }

/-- `plant` with its dispatcher in RUN at a cadence of 4.0 s. -/
def running : State :=
  (plant.withDsp { plant.dsp with state := .run, cadence := .running 4000 }).withPst
    { plant.pst with budget := 200000 }

/-- A gate front that settles or awaits a sample. -/
def fresh (p : FrontPhase) : State :=
  ((loaded .pending).withTrk
    { (loaded .pending).trk with
      gate :=
        [{ billet := steel 47 150 2900 11900 11150, verdict := .pending, frontTime := some 0 }] }).withEvu
    { phase := p, settle := if p = .settling then some 300 else none, wait := some 1000, exitM := none }

/-- `plant` with the poll of a zone outstanding. -/
def polling (z : ZoneNo) : State :=
  plant.withIlc
    { plant.ilc with
      round :=
        some
          { carried := { setpoints := .const 2000, grants := .const 200000 }
            poll := { channel := z, setpoint := 2000, ack := true, spoiled := false } }
      entries := (PerZone.const (some (.energy 10000))).set z none }

/-- `polling` after a reply that was no good reply. -/
def spoiledPoll (z : ZoneNo) : State :=
  (polling z).withIlc
    { (polling z).ilc with
      round := (polling z).ilc.round.map fun rd => { rd with poll := { rd.poll with spoiled := true } } }

/-- A reset state with one link unit replaced. -/
def withLink (st : Station) (l : Link) : State := setLink st l State.reset

/-- A NOTICE READ frame under execution. -/
def reading : Executing := { frame := { unit := 0x01, seq := 0x07, cmd := 0x01, payload := [] }, dropReply := false }

/-- A link unit that executes a command, with frames waiting. -/
def working (n : Nat) : Link :=
  { Link.reset with executing := some reading, fifo := List.replicate n reading.frame, pace := decide (n < 4) }

/-! ### WellFormed refuses an ill-formed term for each check -/

theorem test_wf_empty_frame : (Instr.frameReceived .press []).wf = false := by decide
theorem test_wf_known_code : (Instr.unknownCommand .press 0x10).wf = false := by decide
theorem test_wf_given_length : (Instr.noticeRead .press (.wrongLength 2)).wf = false := by decide
theorem test_wf_short_length : (Instr.map .press (.wrongLength 1)).wf = false := by decide
theorem test_wf_long_length : (Instr.map .press (.wrongLength 67)).wf = false := by decide
theorem test_wf_form :
    (Instr.examine .press (.items { form := 256, table := 0, record := 0, field := 0 })).wf = false := by
  decide
theorem test_wf_value :
    (Instr.deposit .supervisor
      (.items { address := { form := 0, table := 0, record := 0, field := 0 }, value := 4294967296 })).wf =
      false := by decide
theorem test_wf_slot :
    (Instr.loadRecipe .supervisor (.items { slot := 256, fields := recipe5 })).wf = false := by decide
theorem test_wf_recipe_field :
    (Instr.loadRecipe .supervisor (.items { slot := 5, fields := { recipe5 with cap := 4294967296 } })).wf =
      false := by decide
theorem test_wf_map : (Instr.map .press (.items { first := 256, count := 1 })).wf = false := by decide
theorem test_wf_tag : (Instr.billet .press (.items 65536)).wf = false := by decide
theorem test_wf_push :
    (Instr.pushRequest .loader
      (.items { tag := 1, recipe := 0, length := 65536, entryTemp := none })).wf = false := by decide
theorem test_wf_entry_temperature :
    (Instr.pushRequest .loader
      (.items { tag := 1, recipe := 0, length := 60, entryTemp := some 65536 })).wf = false := by decide
theorem test_wf_stroke : (Instr.pushDone .loader (.items { tag := 1, stroke := 65536 })).wf = false := by
  decide
theorem test_wf_decision : (Instr.resync .supervisor (.items 256)).wf = false := by decide
theorem test_wf_zone : (Instr.zoneRestore .supervisor (.items 256)).wf = false := by decide
theorem test_wf_count :
    (Instr.lotOpen .supervisor (.items { recipe := 5, count := 65536 })).wf = false := by decide
theorem test_wf_reply_energy :
    (Instr.inverterReply
      { start := 0x72, channel := 1, status := 0, energy := 16777216, meanPower := 0, check := 0 }).wf =
      false := by decide
theorem test_wf_entry : (Instr.roundRecord (.const (.energy 16777216))).wf = false := by decide
theorem test_wf_sample : (Instr.pyrometerSample .a []).wf = false := by decide
theorem test_wf_correction :
    (Instr.measurementCorrection { tag := 0, source := .a, sample := none }).wf = false := by decide
theorem test_wf_correction_sample :
    (Instr.measurementCorrection { tag := 1, source := .a, sample := some 2999 }).wf = false := by decide

/-! ### Requests, byte by byte from the tables of R145 and R150 -/

theorem test_decode_notice_clear :
    decodeRequest .loader 0x02 [0x80, 0x01] = .noticeClear .loader (.items 0x0180) := by decide
theorem test_decode_examine :
    decodeRequest .press 0x08 [0, 3, 5, 15] =
      .examine .press (.items { form := 0, table := 3, record := 5, field := 15 }) := by decide
theorem test_decode_deposit :
    decodeRequest .supervisor 0x09 [0, 0, 0, 0, 0x40, 0x0D, 0x03, 0x00] =
      .deposit .supervisor
        (.items { address := { form := 0, table := 0, record := 0, field := 0 }, value := 200000 }) := by
  decide
theorem test_decode_load_recipe :
    decodeRequest .supervisor 0x0A
        [5, 0xF4, 0x33, 0, 0, 64, 160, 40, 0, 3, 150, 0, 0xA0, 0x0F, 0x70, 0x17, 0x40, 0x1F, 0x28, 0x23,
          0x10, 0x27, 0xF8, 0x2A, 0xEC, 0x2C, 0xE0, 0x2E, 0xEC, 0x2C, 0xA8, 0x2F, 0xF8, 0x2A, 0xD4, 0x30,
          0x58, 0x1B, 30, 0xB0, 0x04, 1, 0] =
      .loadRecipe .supervisor (.items { slot := 5, fields := recipe5 }) := by decide +kernel
theorem test_decode_map :
    decodeRequest .loader 0x10 [0, 3] = .map .loader (.items { first := 0, count := 3 }) := by decide
theorem test_decode_push_request :
    decodeRequest .loader 0x18 [28, 0, 5, 0xF4, 0x01] =
      .pushRequest .loader (.items { tag := 28, recipe := 5, length := 500, entryTemp := none }) := by
  decide
theorem test_decode_push_request_temperature :
    decodeRequest .loader 0x18 [29, 0, 5, 0x2C, 0x01, 0x5E, 0x01] =
      .pushRequest .loader (.items { tag := 29, recipe := 5, length := 300, entryTemp := some 350 }) := by
  decide
theorem test_decode_push_done :
    decodeRequest .loader 0x19 [28, 0, 0xF7, 0x01] =
      .pushDone .loader (.items { tag := 28, stroke := 503 }) := by decide
theorem test_decode_take : decodeRequest .press 0x21 [47, 0] = .take .press (.items 47) := by decide
theorem test_decode_cadence :
    decodeRequest .press 0x23 [0xB0, 0x04] = .cadence .press (.items 1200) := by decide
theorem test_decode_resync : decodeRequest .supervisor 0x1C [1] = .resync .supervisor (.items 1) := by decide
theorem test_decode_lot_open :
    decodeRequest .supervisor 0x30 [5, 0x14, 0x00] =
      .lotOpen .supervisor (.items { recipe := 5, count := 20 }) := by decide
theorem test_decode_lot_adjust :
    decodeRequest .loader 0x31 [0xFC] = .lotAdjust .loader (.items (-4)) := by decide
theorem test_decode_unknown : decodeRequest .press 0x04 [] = .unknownCommand .press 0x04 := by decide
theorem test_decode_wrong_length :
    decodeRequest .press 0x10 [0] = .map .press (.wrongLength 3) := by decide
theorem test_no_table_word : decodeTableWord 32 0xFFFFFFFF = none := rfl

/-! ### The link units (chapter 9) -/

-- R9, R143: power-on reset.
theorem test_power_on_straps : (after (.powerOnReset 0) plant).unit = 1 := by decide +kernel
theorem test_power_on_recipe : recipeValidity (after (.powerOnReset 3) plant) 5 = 1 := by decide +kernel
-- R145, R149: 0xA5 01 02 07 01 F5 is NOTICE READ with SEQ 7 to unit 1; 01+02+07+01+F5 = 0x100.
theorem test_frame_taken :
    (after (.frameReceived .supervisor [0xA5, 0x01, 0x02, 0x07, 0x01, 0xF5]) State.reset).links.supervisor.executing =
      some reading := by decide +kernel
theorem test_frame_bad_check :
    (after (.frameReceived .supervisor [0xA5, 0x01, 0x02, 0x07, 0x01, 0xF4]) State.reset).ntc.supervisor.pending =
      0x800 := by decide +kernel
-- The order of the rows: FRAME_START brings 0xA5 and FRAME_RECEIVED the other bytes.
theorem test_frame_begun_then_taken :
    (after (.frameReceived .supervisor [0x01, 0x02, 0x07, 0x01, 0xF5])
        (after (.frameStart .supervisor) State.reset)).links.supervisor.executing = some reading := by
  decide +kernel
-- R149: a frame begun as an overrun stays discarded though the FIFO holds 3 frames when it ends.
theorem test_overrun_stays_discarded :
    let s := withLink .press { working 3 with receiver := .receiving [0xA5], overrun := true }
    (after (.frameReceived .press [0x01, 0x02, 0x07, 0x01, 0xF5]) s).links.press = working 3 ∧
      (after (.frameReceived .press [0x01, 0x02, 0x07, 0x01, 0xF5]) s).ntc.press.pending = 0x800 := by
  decide +kernel
-- R146: the reply to that frame, set empty: 5B 01 08 07 01 00, set 0000, highest FF, new 0000.
theorem test_reply_frame :
    (after (.noticeRead .supervisor (.items ())) (withLink .supervisor (working 0))).links.supervisor.transmitter =
      .sending [0x5B, 0x01, 0x08, 0x07, 0x01, 0x00, 0, 0, 0xFF, 0, 0, 0xF0] := by decide +kernel
theorem test_reply_sent :
    (after (.replySent .press)
      (withLink .press { working 1 with executing := none, transmitter := .sending [] })).links.press.executing =
      some reading := by decide +kernel
theorem test_reply_start :
    driverEnable (after .replyStart (withLink .supervisor { Link.reset with transmitter := .ready [] })) =
      true := by decide +kernel
theorem test_break_empties_fifo :
    (after (.linkBreak .loader) (withLink .loader (working 3))).links.loader.fifo = [] := by decide +kernel
theorem test_break_drops_reply :
    (after (.linkBreak .loader) (withLink .loader (working 3))).links.loader.executing =
      some { reading with dropReply := true } := by decide +kernel
theorem test_break_end :
    (after (.breakEnd .press) (withLink .press { Link.reset with lineBreak := true })).links.press.lineBreak =
      false := by decide +kernel
theorem test_press_link_reset :
    (after .pressLinkReset reserved).phu = none ∧ (after .pressLinkReset reserved).ntc.loader.pending = 0x040 := by
  decide +kernel
theorem test_frame_start :
    (after (.frameStart .press) State.reset).links.press.receiver = .receiving [0xA5] := by decide +kernel
theorem test_gap_timeout :
    (after (.frameGapTimeout .press) (withLink .press { Link.reset with receiver := .receiving [0xA5] })).ntc.press.pending =
      0x800 := by decide +kernel
theorem test_parity_while_hunting : after (.parityError .press) State.reset = State.reset := by decide +kernel
theorem test_unknown_command :
    answered (.unknownCommand .press 0x04) .press plant = some { status := .unknownCommand, payload := [] } := by
  decide +kernel
theorem test_not_permitted :
    answered (.stop .loader (.items ())) .loader plant = some { status := .notPermitted, payload := [] } := by
  decide +kernel

/-! ### Notices (chapter 10, "Worked example: one gate event in three sets") -/

-- Set {GATE_SPACE, VERDICT} is 0x0A0; the highest pending is VERDICT, order 5; both are new.
theorem test_notice_read :
    answered (.noticeRead .press (.items ())) .press (raise .gateSpace (raise .verdict State.reset)) =
      some { status := .ok, payload := [0xA0, 0x00, 5, 0xA0, 0x00] } := by decide +kernel
theorem test_notice_clear :
    answered (.noticeClear .loader (.items 0xF080)) .loader (raise .gateSpace (raise .verdict State.reset)) =
      some { status := .ok, payload := [0x20, 0x00] } := by decide +kernel
theorem test_notice_mask :
    attention (after (.noticeMask .press (.items 0xF080)) (raise .gateSpace State.reset)) .press = true := by
  decide +kernel

/-! ### The parameter space (chapter 7, "Worked example: live changes on a running recipe") -/

/-- A DEPOSIT in the explicit form. -/
def put (table record field value : Nat) : Instr :=
  .deposit .supervisor
    (.items { address := { form := 0, table := table, record := record, field := field }, value := value })

-- Step 1: TS_HI 12400 is accepted. The reply: address 3, 5, 15, the value, VALIDITY 0.
theorem test_deposit_ts_hi :
    answered (put 3 5 15 12400) .supervisor plant =
      some { status := .ok, payload := [3, 5, 15, 0x70, 0x30, 0] } := by decide +kernel
-- Step 2 without step 1: TS_LO 12500 is not below TS_HI 12200.
theorem test_deposit_inconsistent :
    answered (put 3 5 14 12500) .supervisor plant =
      some { status := .inconsistent, payload := [3, 5, 14, 0xEC, 0x2C] } := by decide +kernel
-- Step 7: TS_LO 11500, written, live, VALID, in use.
theorem test_examine_ts_lo :
    answered (.examine .press (.items { form := 0, table := 3, record := 5, field := 14 })) .press plant =
      some { status := .ok, payload := [3, 5, 14, 0xEC, 0x2C, 1, 3, 0, 0] } := by decide +kernel
-- The end of the example: NEXT from IN_USE of RECIPE 15 is refused RANGE.
theorem test_examine_next_at_end :
    answered (.examine .press (.items { form := 1, table := 0, record := 0, field := 0 })) .press
        (withLink .press { Link.reset with pointer := { table := 3, record := 15, field := 24 } }) =
      some { status := .range, payload := [] } := by decide +kernel
-- R132: TS_HI of 65535 is fitted to 14000, so TS_HI is not below TSMAX 12500: test 4 fails, reason 5.
theorem test_load_recipe_fitted :
    answered (.loadRecipe .supervisor (.items { slot := 7, fields := { recipe5 with tsHi := 65535 } })) .supervisor
        plant = some { status := .okClamped, payload := [7, 5, 0x00, 0x80, 0x00] } := by decide +kernel
theorem test_load_recipe_in_use :
    answered (.loadRecipe .supervisor (.items { slot := 5, fields := recipe5 })) .supervisor plant =
      some { status := .inUse, payload := [] } := by decide +kernel

/-! ### The track (chapter 1, "Worked example: three pushes, a take and a slip") -/

-- MAP of one record, R151: tag 47, recipe 5, lot 14, length 150, trailing 2900, Ts 11975, Tc 11150, flags
-- gate, verdict READY, dwell 0; before it generation 118, IDLE, 3 records, first index 0.
theorem test_map :
    answered (.map .press (.items { first := 0, count := 1 })) .press (loaded .ready) =
      some
        { status := .ok
          payload :=
            [118, 0, 0, 3, 0, 47, 0, 5, 14, 150, 0, 0x54, 0x0B, 0xC7, 0x2E, 0x8E, 0x2B, 16, 2, 0, 0] } := by
  decide +kernel
theorem test_billet_none :
    answered (.billet .press (.items 99)) .press (loaded .ready) =
      some { status := .noBillet, payload := [] } := by decide +kernel
theorem test_billet_pending :
    answered (.billet .loader (.items 28)) .loader (pushing .pushing) =
      some { status := .ok, payload := [118, 0, 2, 28, 0, 5, 0xF4, 0x01, 14, 200, 0, 0, 0, 0, 0, 0, 0, 1] } := by
  decide +kernel
-- CLASSIFY with UNTRACKED (bit 1) and with ROW_TRACKED (bit 0).
theorem test_classify_untracked :
    answered (.classify .press (.items 2)) .press (loaded .ready) =
      some { status := .ok, payload := [118, 0, 0] } := by decide +kernel
theorem test_classify_row_tracked :
    answered (.classify .press (.items 1)) .press (loaded .ready) =
      some { status := .ok, payload := [118, 0, 2, 22, 0, 27, 0] } := by decide +kernel
-- PUSH REQUEST without an entry temperature: OK, the tag, lot 14, 20.0 °C, the generation.
theorem test_push_request :
    answered (.pushRequest .loader (.items { tag := 28, recipe := 5, length := 500, entryTemp := none })) .loader
        (loaded .ready) = some { status := .ok, payload := [28, 0, 14, 200, 0, 118, 0] } := by decide +kernel
theorem test_push_request_no_lot :
    answered (.pushRequest .loader (.items { tag := 28, recipe := 5, length := 500, entryTemp := none })) .loader
        (plant.withLot State.reset.lot) = some { status := .noLot, payload := [] } := by decide +kernel
-- PUSH DONE with S 503 against 500: applied; row trailing faces move by 500.
theorem test_push_done_applied :
    (after (.pushDone .loader (.items { tag := 28, stroke := 503 })) (pushing .pushing)).trk.row.map
        (fun b => (b.tag, b.trailing)) = [(22, 950), (27, 500), (28, 0)] := by decide +kernel
-- A difference of 15 slips: UNCERTAIN, the slip indicator set.
theorem test_push_done_slips :
    answered (.pushDone .loader (.items { tag := 28, stroke := 515 })) .loader (pushing .pushing) =
      some { status := .ok, payload := [1, 0x03, 0x02, 0xF4, 0x01, 118, 0] } := by decide +kernel
theorem test_push_cancel :
    (after (.pushCancel .loader (.items 28)) (pushing .pushing)).trk.state = .idle := by decide +kernel
theorem test_push_timeout :
    (after .pushTimerExpiry ((pushing .pushing).withClock 10000 10)).ntc.press.pending = 0x204 := by
  decide +kernel
theorem test_resync_applied :
    (after (.resync .supervisor (.items 1)) (pushing .uncertain)).trk.generation = 119 := by decide +kernel
theorem test_resync_in_idle :
    answered (.resync .supervisor (.items 1)) .supervisor (loaded .ready) =
      some { status := .busy, payload := [] } := by decide +kernel
theorem test_purge :
    answered (.purge .supervisor (.items ())) .supervisor (pushing .pushing) =
      some { status := .ok, payload := [2, 1, 1, 119, 0] } := by decide +kernel
theorem test_purge_counts_lost :
    (after (.purge .supervisor (.items ())) (pushing .pushing)).lot.queue.map (·.lost) = [3] := by
  decide +kernel

/-! ### The estimator (chapter 2) -/

-- "Worked example: one round on one billet" and "a gate record cooling".
theorem test_two_node_row : twoNode recipe5 150 3750 50 6000 5500 = (6022, 5513) := by decide +kernel
theorem test_two_node_gate : twoNode recipe5 150 0 50 12000 11200 = (11956, 11206) := by decide +kernel
-- "Worked example: a remainder and a VOID zone": records 53, 52, 51 in zone 6 with 999 J, zone 5 VOID.
theorem test_shares :
    let s := plant.withTrk
      { plant.trk with
        row := [steel 50 300 2500 0 0, steel 51 230 2270 0 0, steel 52 140 2130 0 0, steel 53 300 1830 0 0] }
    let r : RoundRecord := ((PerZone.const (.energy 0)).set .z5 .void).set .z6 (.energy 999)
    s.trk.row.map (recordEnergy s (r.set .z7 (.energy 1200))) = [900, 624, 349, 324] := by decide +kernel
theorem test_round_record :
    (after (.roundRecord ((PerZone.const (.energy 0)).set .z1 .void)) (loaded .suspect)).trk.row.map (·.estimate) =
      [.tracked, .untracked] := by decide +kernel
-- "Worked example: corrections toward zero".
theorem test_correction : correctedTs 128 6022 (some 5900) = 5961 := by decide +kernel
theorem test_correction_trust_100 : correctedTs 100 6022 (some 5900) = 5975 := by decide +kernel
theorem test_correction_row :
    (after (.measurementCorrection { tag := 22, source := .a, sample := some 5900 }) (loaded .ready)).trk.row.map
        (·.ts) = [5950, 200] := by decide +kernel

/-! ### The dispatcher (chapter 3) -/

-- "Worked example: the demand of one billet", running and under hold.
theorem test_demand_running : recordDemand running (steel 41 150 925 6022 5513) = 58852 := by decide +kernel
theorem test_demand_hold : recordDemand plant (steel 41 150 925 6022 5513) = 9044 := by decide +kernel
-- "Worked example: allocation within the budget", zone 3 of the eight zones and three equal zones.
theorem test_allocation_three :
    (allocate 200000 { PerZone.const 0 with z1 := 100001, z2 := 100001, z3 := 100001 }).z2 = 66666 := by
  decide +kernel
theorem test_allocation_limit :
    cappedDemand { heater with lastStatus := some .limit, lastMean := 1800 } 260000 = 202500 := by
  decide +kernel
theorem test_dispatch_expiry :
    (after .dispatchTimerExpiry
      ((running.withTrk { running.trk with row := [steel 41 150 925 6022 5513] }).withClock 50
        0)).dsp.setpoints.z3 = 588 := by
  decide +kernel
theorem test_dispatch_expiry_stopped :
    (after .dispatchTimerExpiry (plant.withClock 50 0)).dsp.timerExpiry = 100 := by decide +kernel
theorem test_cadence_clamped :
    answered (.cadence .press (.items 19)) .press plant =
      some { status := .okClamped, payload := [20, 0, 0] } := by decide +kernel
theorem test_run_without_budget :
    answered (.run .supervisor (.items ())) .supervisor plant =
      some { status := .noBudget, payload := [0] } := by decide +kernel
theorem test_stop : (after (.stop .supervisor (.items ())) running).dsp.state = .stopped := by decide +kernel
theorem test_dispatch_status_length :
    (answered (.dispatchStatus .press (.items ())) .press running).map (·.payload.length) = some 58 := by
  decide +kernel
theorem test_permit_lost : (after .permitLost running).ntc.press.pending = 0x001 := by decide +kernel
theorem test_permit_present : (after .permitPresent State.reset).permit = true := by decide +kernel

/-! ### The inverter link (chapter 4) -/

/-- A reply of zone 5 with 20,000 J and mean 2000: 5 + 0 + 0x20 + 0x4E + 0 + 0xD0 + 0x07 + 0xB6 = 0x200. -/
def reply5 : InverterFrame :=
  { start := 0x72, channel := 5, status := 0, energy := 20000, meanPower := 2000, check := 0xB6 }

theorem test_good_reply :
    (after (.inverterReply reply5) (polling .z5)).ilc.entries.z5 = some (.energy 20000) := by decide +kernel
theorem test_bad_reply :
    (after (.inverterReply { reply5 with check := 0xB7 }) (polling .z5)).zones.z5.missCount = 1 := by
  decide +kernel
-- R82: a status above 3 is no good reply, and a second reply to the poll is stray. 5 + 4 + F7 = 0x100.
theorem test_second_reply_stray :
    let bad : InverterFrame :=
      { start := 0x72, channel := 5, status := 4, energy := 0, meanPower := 0, check := 0xF7 }
    after (.inverterReply reply5) (after (.inverterReply bad) (polling .z5)) = spoiledPoll .z5 := by
  decide +kernel
-- R82: a second reply of channel 5 in the window of channel 6 is stray; the good reply of channel 6 is taken.
-- 6 + 0 + 0x20 + 0x4E + 0 + 0xD0 + 0x07 + 0xB5 = 0x200.
theorem test_second_reply_of_other_channel :
    let s := after (.inverterReply reply5) (polling .z5)
    after (.inverterReply reply5) s = s ∧
      (after (.inverterReply { reply5 with channel := 6, check := 0xB5 })
        (after (.inverterReply reply5) s)).ilc.entries.z6 = some (.energy 20000) := by
  decide +kernel
-- "Worked example: a lost reply and a zone fault": the third miss makes the zone FAULT.
theorem test_third_miss :
    (after .replyWindowClose
      ((polling .z5).withZones ((PerZone.const heater).set .z5 { heater with missCount := 2 }))).ntc.press.pending =
      0x002 := by decide +kernel
theorem test_zone_restore :
    answered (.zoneRestore .supervisor (.items 5)) .supervisor
        (plant.withZones ((PerZone.const heater).set .z5 { heater with state := .fault, missCount := 3 })) =
      some { status := .ok, payload := [5, 1, 0, 0xFF] } := by decide +kernel

/-! ### The exit verdict (chapter 5, "Worked example: deciding a front" and "re-evaluation on the gate") -/

-- Sample 12050 decides: Ts 11975, READY. The bytes, R92: C3 + 12 + 2F + FC = 0x200.
theorem test_sample_decides :
    (after (.pyrometerSample .b [0xC3, 0x12, 0x2F, 0xFC]) (fresh .awaiting)).trk.gate.map (fun g => (g.billet.ts, g.verdict)) =
      [(11975, .ready)] := by decide +kernel
-- Sample 12260 instead: Ts 12080, OVER. C3 + E4 + 2F + 2A = 0x200.
theorem test_sample_over :
    (after (.pyrometerSample .b [0xC3, 0xE4, 0x2F, 0x2A]) (fresh .awaiting)).trk.gate.map (fun g => (g.billet.ts, g.verdict)) =
      [(12080, .over)] := by decide +kernel
-- A reading of 11000 on a READY front of Ts 11931 and Tc 11157: Ts 11466, UNDER.
theorem test_scaled_reading :
    (exitSample (some 11000)
      (reserved.withTrk
        { reserved.trk with
          gate :=
            [{ billet := steel 47 150 2900 11931 11157, verdict := .ready, frontTime := some 0 }] })).ntc.press.pending =
      0x060 := by decide +kernel
theorem test_settle_expiry :
    (after .settleTimerExpiry ((fresh .settling).withClock 300 0)).evu.phase = .awaiting := by
  decide +kernel
-- R100: without a sample the front is judged on its estimate, Ts 11900 and Tc 11150.
theorem test_wait_expiry :
    (after .waitTimerExpiry ((fresh .awaiting).withClock 1000 1)).trk.gate.map (·.verdict) = [.ready] := by decide +kernel
theorem test_sample_frame : (after (.sampleFrameStart .a) State.reset).pya.frame = [0xC3] := by decide +kernel
-- R92: a value byte may be 0xC3 as well, and 0xC3 as the fourth byte ends the frame: C3 + 7A + 00 + C3 = 0x200.
theorem test_sample_last_byte_start :
    (after (.sampleFrameStart .a) (after (.pyrometerSample .a [0xC3, 0x7A, 0x00]) State.reset)).pya =
      { frame := [], lastSample := some { value := 122, valid := false } } := by decide +kernel
-- R107: a DISCARD taken before the expiry removes the front that the expiry was about; the next front, on the
-- gate since 300, settles until 600.
theorem test_settle_expiry_after_discard :
    let s := ((fresh .settling).withTrk
      { (fresh .settling).trk with
        gate := (fresh .settling).trk.gate ++
          [{ billet := steel 46 150 2750 11900 11150, verdict := .pending, frontTime := none }] }).withClock 300 0
    let t := after .settleTimerExpiry (after (.discard .press (.items 47)) s)
    t.evu.phase = .settling ∧ t.evu.settle = some 600 := by decide +kernel
theorem test_dropped_frame :
    after (.droppedFrame .b) (after (.sampleFrameStart .b) State.reset) = State.reset := by decide +kernel
theorem test_byte_timeout :
    after (.pyroByteTimeout .b) (after (.sampleFrameStart .b) State.reset) = State.reset := by decide +kernel

/-! ### Handover (chapter 6) -/

-- R111: tag 47, recipe 5, lot 14, Ts 11975, Tc 11150, exit measurement 12050.
theorem test_reserve :
    answered (.reserve .press (.items ())) .press (loaded .ready) =
      some { status := .ok, payload := [47, 0, 5, 14, 0xC7, 0x2E, 0x8E, 0x2B, 0x12, 0x2F] } := by
  decide +kernel
theorem test_reserve_under :
    answered (.reserve .press (.items ())) .press (loaded .under) =
      some { status := .notReady, payload := [47, 0, 2] } := by decide +kernel
theorem test_take :
    (after (.take .press (.items 47)) reserved).lot.queue.map (·.forged) = [1] := by decide +kernel
theorem test_take_unreserved :
    answered (.take .press (.items 47)) .press (loaded .ready) = some { status := .lost, payload := [] } := by
  decide +kernel
theorem test_discard :
    (after (.discard .press (.items 47)) (loaded .under)).lot.queue.map (·.rejected) = [1] := by decide +kernel
theorem test_lapse :
    (after .lapseTimerExpiry (reserved.withClock 4000 4)).ntc.press.pending = 0x040 := by decide +kernel
-- R112: a RESERVE taken before the expiry renews the reservation.
theorem test_lapse_after_reserve :
    (after .lapseTimerExpiry (after (.reserve .press (.items ())) (reserved.withClock 4000 4))).phu =
      some { tag := 47, lapse := 8000 } := by decide +kernel

/-! ### Lots (chapter 8) -/

-- R136: LOT OPEN behind a LOADING lot is refused BUSY, and in an empty queue opened.
theorem test_lot_open_busy :
    answered (.lotOpen .supervisor (.items { recipe := 5, count := 20 })) .supervisor plant =
      some { status := .busy, payload := [] } := by decide +kernel
theorem test_lot_open_clamped :
    answered (.lotOpen .supervisor (.items { recipe := 5, count := 0 })) .supervisor
        (plant.withLot State.reset.lot) = some { status := .okClamped, payload := [1, 5, 1, 0] } := by
  decide +kernel
-- Steps 8 and 9 of the changeover example: −4 at to-load 4 gives the to-load before, and 0 after.
theorem test_lot_adjust :
    answered (.lotAdjust .loader (.items (-4))) .loader plant =
      some { status := .ok, payload := [14, 4, 0] } := by decide +kernel
theorem test_lot_adjust_bad_step :
    answered (.lotAdjust .loader (.items 2)) .loader plant = some { status := .badStep, payload := [] } := by
  decide +kernel
theorem test_lot_abort :
    (after (.lotAbort .supervisor (.items ())) (loaded .ready)).lot.queue.map (·.toLoad) = [0] := by
  decide +kernel
theorem test_lot_status :
    answered (.lotStatus .press (.items ())) .press (plant.withLot State.reset.lot) =
      some { status := .ok, payload := List.replicate 12 0xFF ++ [1, 0, 0xFF, 0] } := by decide +kernel

/-! ### A sample frame whose last byte arrives alone -/

-- R92: 0xC3 + 0x7A + 0x00 + 0xC3 = 0x200; 0x007A is 12.2 °C, below 300.0, so the sample is VOID.
theorem test_sample_last_byte_alone :
    (after (.sampleFrameStart .a) (after (.pyrometerSample .a [0xC3, 0x7A, 0x00]) plant)).pya =
      { frame := [], lastSample := some { value := 122, valid := false } } := by decide +kernel

/-! ### Every statement's hypotheses can be met, each clause at a boundary of its range -/

theorem test_meets_StepRunsFrontCommand :
    (State.reset.withPending [.permitPresent]).pending = [.permitPresent] := rfl
theorem test_meets_IdleStepTicks_event :
    (State.reset.withClock 50 0).pending = [] ∧
      internalEvent (State.reset.withClock 50 0) = some .dispatchTimerExpiry := by decide +kernel
theorem test_meets_IdleStepTicks_tick :
    (State.reset.withClock 49 0).pending = [] ∧ internalEvent (State.reset.withClock 49 0) = none := by
  decide +kernel
theorem test_meets_OwnItemsOnly : exec .permitPresent running = .next (after .permitPresent running) := rfl
theorem test_meets_LinkResets_break :
    (reserved.links.get .press).lineBreak = false ∧ driverEnable reserved = false ∧
      reserved.links.press.executing = none ∧ (withLink .press (working 4)).links.press.executing ≠ none := by
  decide +kernel
theorem test_meets_LinkResets_no_break :
    ((withLink .press { Link.reset with lineBreak := true }).links.get .press).lineBreak = true ∧
      driverEnable (withLink .supervisor { Link.reset with transmitter := .sending [] }) = true := by
  decide +kernel
theorem test_meets_GoodFrameAccepted_free :
    (List.replicate 64 (0 : Byte)).length ≤ 64 ∧ canReceive State.reset .supervisor = true ∧
      (State.reset.links.get .supervisor).receiver = .hunting ∧
      (State.reset.links.get .supervisor).fifo.length < 4 ∧
      (State.reset.links.get .supervisor).executing = none ∧
      (State.reset.links.get .supervisor).transmitter = .idle ∧
      (State.reset.links.get .supervisor).fifo = [] ∧
      (State.reset.links.get .supervisor).resetOwed = false ∧ (1 : Byte) = BitVec.ofNat 8 State.reset.unit := by
  decide +kernel
theorem test_meets_GoodFrameAccepted_busy :
    canReceive (withLink .press (working 3)) .press = true ∧
      ((withLink .press (working 3)).links.get .press).receiver = .hunting ∧
      ((withLink .press (working 3)).links.get .press).fifo.length < 4 ∧
      ((withLink .press (working 3)).links.get .press).executing ≠ none := by decide +kernel
theorem test_meets_GoodFrameAccepted_begun :
    let s := after (.frameStart .supervisor) State.reset
    [0xA5] ++ [0x01, 0x02, 0x07, 0x01, 0xF5] = requestFrame 0x01 0x07 0x01 [] ∧
      canReceive s .supervisor = true ∧ (s.links.get .supervisor).receiver = .receiving [0xA5] ∧
      (s.links.get .supervisor).overrun = false ∧ (s.links.get .supervisor).fifo.length < 4 ∧
      let u := after (.frameReceived .supervisor [0x01, 0x02, 0x07, 0x01]) s
      [0xA5, 0x01, 0x02, 0x07, 0x01] ++ [0xF5] = requestFrame 0x01 0x07 0x01 [] ∧
        (u.links.get .supervisor).receiver = .receiving [0xA5, 0x01, 0x02, 0x07, 0x01] := by decide +kernel
theorem test_meets_FramesDiscarded_begun :
    let s := withLink .press { working 3 with receiver := .receiving [0xA5, 0x01], overrun := true }
    canReceive s .press = true ∧ (s.links.get .press).receiver = .receiving [0xA5, 0x01] ∧
      (s.links.get .press).overrun = true ∧ (s.links.get .press).fifo.length < 4 ∧
      [0xA5, 0x01] ++ [0x02, 0x07, 0x01, 0xF5] = requestFrame 0x01 0x07 0x01 [] ∧
      addressed s .press 0x01 = true ∧ [0xA5, 0x01] ++ [0x43] = ([0xA5, 0x01, 0x43] : List Byte) := by
  decide +kernel
theorem test_meets_FramesDiscarded :
    ([] : List Byte).length ≤ 64 ∧ canReceive (withLink .supervisor (working 4)) .supervisor = true ∧
      ((withLink .supervisor (working 4)).links.get .supervisor).receiver = .hunting ∧
      ((withLink .supervisor (working 4)).links.get .supervisor).overrun = false ∧
      (0xF4 : Byte) ≠ checkByte [0x01, 0x02, 0x07, 0x01] ∧
      addressed (withLink .supervisor (working 4)) .supervisor 0x01 = true ∧
      ((withLink .supervisor (working 4)).links.get .supervisor).fifo.length = 4 ∧
      (0xF4 : Byte) = checkByte [0x02, 0x02, 0x07, 0x01] ∧ (0x02 : Byte) ≠ 0 ∧
      (0x02 : Byte) ≠ BitVec.ofNat 8 (withLink .supervisor (working 4)).unit ∧
      (0x01 : Byte).toNat < 2 ∧ 66 < (0x43 : Byte).toNat := by decide +kernel
theorem test_meets_ReceptionBeginsAndEnds :
    canReceive (withLink .press { Link.reset with lineBreak := true }) .press = false ∧
      canReceive (withLink .press (working 4)) .press = true ∧
      ((withLink .press (working 4)).links.get .press).receiver = .hunting ∧
      ((withLink .press { Link.reset with receiver := .receiving [0xA5] }).links.get .press).receiver =
        .receiving [0xA5] ∧
      partialFrame ([0xA5] ++ [0x01]) ∧ partialFrame ([0xA5] ++ [0x01, 0x02, 0x07, 0x01]) ∧
      ¬partialFrame ([0xA5] ++ [0x01, 0x02, 0x07, 0x01, 0xF5]) ∧ (0xA4 : Byte) ≠ 0xA5 := by decide +kernel
theorem test_meets_ReplyBeginsAndEnds :
    (withLink .supervisor { Link.reset with transmitter := .ready [0x5B] }).links.supervisor.transmitter =
        .ready [0x5B] ∧
      (withLink .supervisor { Link.reset with transmitter := .ready [0x5B] }).links.supervisor.receiver =
        .hunting ∧
      let s := withLink .press { working 1 with executing := none, transmitter := .sending [0x5B] }
      (s.links.get .press).transmitter = .sending [0x5B] ∧ (s.links.get .press).fifo = [reading.frame] ∧
        (s.links.get .press).executing = none ∧ (s.links.get .press).resetOwed = false := by decide +kernel
theorem test_meets_FrameUnderExecutionAnswered :
    ((withLink .supervisor (working 0)).links.get .supervisor).executing = some reading := by decide +kernel
theorem test_meets_LinkUnitChecks :
    NoResetDue .press plant ∧ commandRow 0x04 = none ∧
      commandRow 0x09 = some ⟨0x09, false, false, true, [10]⟩ ∧
      CommandRow.permits ⟨0x09, false, false, true, [10]⟩ .press = false ∧
      CommandRow.permits ⟨0x09, false, false, true, [10]⟩ .supervisor = true ∧
      ([] : List Byte).length + 2 ∉ (CommandRow.mk 0x09 false false true [10]).lens := by
  unfold NoResetDue; decide +kernel
theorem test_meets_NoticeReadGivesSet :
    NoResetDue .press (raise .verdict plant) ∧
      ((raise .verdict plant).ntc.get .press).pending.getLsbD 5 = true ∧
      ∀ j < 5, ((raise .verdict plant).ntc.get .press).pending.getLsbD j = false := by
  unfold NoResetDue; decide +kernel
theorem test_meets_NoticeClearAndMask : NoResetDue .press (raise .verdict plant) := by
  unfold NoResetDue; decide +kernel
theorem test_meets_FieldsByAddress :
    fieldOrder.length = 474 ∧
      fieldOrder[0]? = some { table := 0, record := 0, field := 0 } ∧
      fieldOrder[473]? = some { table := 3, record := 15, field := 24 } ∧
      FieldAddress.mk 0 0 4 ∉ fieldOrder ∧ FieldAddress.mk 1 8 7 ∈ fieldOrder ∧ FieldAddress.mk 2 2 0 ∉ fieldOrder := by
  decide +kernel
theorem test_meets_ExamineReadsField :
    NoResetDue .press plant ∧
      resolve (plant.links.get .press).pointer { form := 4, table := 0, record := 0, field := 0 } = none ∧
      resolve (plant.links.get .press).pointer { form := 0, table := 3, record := 15, field := 24 } =
        some { table := 3, record := 15, field := 24 } := by
  unfold NoResetDue; decide +kernel
theorem test_meets_DepositStoresField_line :
    plant.pst.recipes.length = 15 ∧
      resolve plant.links.supervisor.pointer { form := 3, table := 0, record := 0, field := 0 } =
        some { table := 0, record := 0, field := 0 } ∧
      FieldAddress.named { table := 0, record := 0, field := 0 } = true ∧
      readOnlyField { table := 0, record := 0, field := 0 } = false ∧
      StoredFor plant { table := 0, record := 0, field := 0 } 4000001 4000000 := by
  unfold StoredFor; decide +kernel
theorem test_meets_DepositStoresField_zone_length :
    readOnlyField { table := 1, record := 8, field := 0 } = false ∧
      StoredFor plant { table := 1, record := 8, field := 0 } 199 200 ∧
      rowLength (after (put 1 8 0 199) (plant.withPst { plant.pst with positionA := 3000 })) = 3000 ∧
      plant.trk.row = [] ∧ plant.trk.gate = [] ∧ plant.trk.push = none := by
  unfold StoredFor; decide +kernel
theorem test_meets_DepositStoresField_recipe_in_use :
    recipeInUse plant 5 = true ∧ recipeLive 15 = true ∧
      StoredFor plant { table := 3, record := 5, field := 15 } 12400 12400 ∧
      ∀ k, 1 ≤ k → k ≤ 6 → relation (setRecipeField (recipeFields plant 5) 15 12400) k := by
  refine ⟨by decide +kernel, by decide, by unfold StoredFor; decide +kernel, fun k h1 h6 => ?_⟩
  interval_cases k <;> (simp only [relation]; decide +kernel)
theorem test_meets_DepositRefusedInOrder :
    resolve plant.links.supervisor.pointer { form := 2, table := 0, record := 0, field := 0 } = none ∧
      readOnlyField { table := 3, record := 5, field := 23 } = true ∧
      readOnlyField { table := 3, record := 5, field := 17 } = false ∧ recipeInUse plant 5 = true ∧
      recipeLive 17 = false ∧ recipeLive 14 = true ∧
      StoredFor plant { table := 3, record := 5, field := 14 } 12500 12500 ∧
      ¬relation (setRecipeField (recipeFields plant 5) 14 12500) 3 ∧
      ¬((loaded .ready).trk.row = [] ∧ (loaded .ready).trk.gate = [] ∧ (loaded .ready).trk.push = none) := by
  simp only [relation, StoredFor]; decide +kernel
theorem test_meets_LoadRecipeWritesWhole :
    plant.pst.recipes.length = 15 ∧ recipeInUse plant 5 = true ∧ recipeInUse plant 1 = false ∧
      recipeInUse plant 15 = false := by decide +kernel
theorem test_meets_ValidityNamesFirstFailure :
    1 ≤ 15 ∧ 15 ≤ 15 ∧ recipeValidity plant 5 = 0 ∧ recipeValidity plant 15 = 1 := by decide +kernel
theorem test_meets_MapAnswers : NoResetDue .loader (loaded .ready) ∧ 1 ≤ 3 ∧ 3 ≤ 3 := by
  unfold NoResetDue; decide +kernel
theorem test_meets_BilletAnswers :
    NoResetDue .press (pushing .pushing) ∧ TagsDistinct (pushing .pushing) ∧
      99 ∉ trackTags (pushing .pushing) ∧ (pushing .pushing).trk.push = some push28 ∧
      (((pushing .pushing).trk.gate.map fun g => (g.billet, some g)) ++
          (pushing .pushing).trk.row.map fun b => (b, none))[2]? = some (steel 27 450 0 200 200, none) := by
  unfold NoResetDue; decide +kernel
theorem test_meets_ClassifyAnswers :
    NoResetDue .press (loaded .ready) ∧ (0x1FF : BitVec 16) ≠ 0 ∧
      (∀ k, 9 ≤ k → (0x1FF : BitVec 16).getLsbD k = false) ∧ (0x200 : BitVec 16).getLsbD 9 = true := by
  refine ⟨by unfold NoResetDue; decide +kernel, by decide, fun k hk => ?_, by decide⟩
  rcases Nat.lt_or_ge k 16 with h | h
  · interval_cases k <;> decide
  · exact BitVec.getLsbD_of_ge _ _ h
theorem test_meets_PushRequestGranted :
    (loaded .ready).trk.state = .idle ∧ 28 ∉ trackTags (loaded .ready) ∧
      recipeValidity (loaded .ready) 5 = 0 ∧
      (loaded .ready).trk.row.length + 1 - (leaving (loaded .ready) 600).length ≤ 40 ∧
      (loaded .ready).trk.gate.length + (leaving (loaded .ready) 600).length ≤ 2 := by decide +kernel
theorem test_meets_PushRequestGranted_admitted : Admitted (loaded .ready) 5 14 := by
  unfold Admitted
  rw [if_neg (by decide)]
  exact ⟨lot14, rfl, rfl, rfl, by decide, by decide, fun r h hne => absurd (Option.some.inj h).symm hne⟩
theorem test_meets_PushRequestGranted_spacer : Admitted (loaded .ready) 0 0 := by
  unfold Admitted
  rw [if_pos rfl]
/-- `loaded` behind a last recipe 7 that asks for two spacers, with one pushed. -/
def changeover : State :=
  storeRecipe 7 { fields := { recipe5 with spacers := 2 }, written := BitVec.allOnes 23 }
    ((loaded .ready).withLot { (loaded .ready).lot with lastRecipe := some 7, spacers := 1 })
theorem test_meets_PushRequestRefusedInOrder :
    (pushing .pushing).trk.state = .pushing ∧ (pushing .uncertain).trk.state = .uncertain ∧
      47 ∈ trackTags (loaded .ready) ∧ ¬(60 ≤ 59 ∧ 59 ≤ 600) ∧ recipeValidity (loaded .ready) 1 ≠ 0 ∧
      (plant.withLot State.reset.lot).lot.queue = [] ∧
      (loaded .ready).lot.queue.getLast? = some lot14 ∧
      (plant.withLot { plant.lot with queue := [{ lot14 with toLoad := 0 }] }).lot.queue.getLast? =
        some { lot14 with toLoad := 0 } ∧
      recipeValidity changeover 7 = 0 ∧ changeover.lot.lastRecipe = some 7 ∧
      changeover.lot.spacers < (recipeFields changeover 7).spacers := by decide +kernel
theorem test_meets_PushRequestRefusedInOrder_full :
    let row := List.replicate 40 (steel 22 60 0 0 0)
    let far := [steel 22 500 2600 0 0, steel 23 500 2600 0 0]
    let s := (loaded .ready).withTrk { (loaded .ready).trk with row := row }
    let u := (loaded .ready).withTrk { (loaded .ready).trk with row := far }
    40 < s.trk.row.length + 1 - (leaving s 60).length ∧
      u.trk.row.length + 1 - (leaving u 600).length ≤ 40 ∧
      2 < u.trk.gate.length + (leaving u 600).length := by decide +kernel
theorem test_meets_PushDoneAndTimeout :
    (pushing .pushing).trk.state = .pushing ∧ (pushing .pushing).trk.push = some push28 ∧
      508 ≤ push28.length + 8 ∧ push28.length ≤ 492 + 8 ∧ push28.length + 8 < 509 ∧
      491 + 8 < push28.length ∧ (pushing .pushing).trk.timer = some 10000 ∧ (pushing .pushing).ms < 10000 ∧
      10000 ≤ ((pushing .pushing).withClock 10000 10).ms := by decide +kernel
theorem test_meets_PushCancelDropsPush :
    (pushing .pushing).trk.state = .pushing ∧ (pushing .pushing).trk.push = some push28 ∧
      push28.tag = 28 ∧ push28.tag ≠ 29 ∧ (pushing .uncertain).trk.state ≠ .pushing := by decide +kernel
theorem test_meets_ResyncSettlesPush :
    (pushing .uncertain).trk.state = .uncertain ∧ (pushing .uncertain).trk.push = some push28 ∧ 2 ≤ 2 ∧
      (pushing .pushing).trk.state ≠ .uncertain := by decide +kernel
theorem test_meets_GenerationCountsStructure :
    (exec (.purge .supervisor (.items ())) (loaded .ready) =
        .next (after (.purge .supervisor (.items ())) (loaded .ready)) ∧
      ChangesStructure (.purge .supervisor (.items ())) (loaded .ready)) ∧
      exec (.take .press (.items 47)) (loaded .ready) =
        .next (after (.take .press (.items 47)) (loaded .ready)) ∧
      ¬ChangesStructure (.take .press (.items 47)) (loaded .ready) := by
  refine ⟨⟨rfl, .inr (.inr (.inr (.inr rfl)))⟩, rfl, ?_⟩
  rintro (⟨_, _, h, _⟩ | ⟨_, h, _⟩ | ⟨_, _, _, _, h, _⟩ | ⟨_, h, _⟩ | h) <;> exact nomatch h
theorem test_meets_RecordsKeepDoubtAndMarks :
    TagsDistinct (loaded .ready) ∧ steel 22 500 450 6000 5500 ∈ billets (loaded .ready) ∧
      ∃ c ∈ billets (after .dispatchTimerExpiry ((loaded .ready).withClock 50 0)), c.tag = 22 := by
  decide +kernel
theorem test_meets_TakeAndDiscard :
    reserved.trk.gate.map (·.billet.tag) = [47] ∧ NoResetDue .press reserved ∧
      reserved.phu = some { tag := 47, lapse := 4000 } ∧ (loaded .ready).phu = none ∧
      plant.trk.gate = [] ∧ (47 : Nat) ≠ 48 := by
  unfold NoResetDue; decide +kernel
theorem test_meets_ReserveAndLapse :
    NoResetDue .press plant ∧ plant.trk.gate = [] ∧ NoResetDue .press (loaded .ready) ∧
      (loaded .ready).trk.gate.map (·.verdict) = [.ready] ∧
      (loaded .under).trk.gate.map (·.verdict) = [.under] ∧
      (reserved.withClock 4000 4).phu = some { tag := 47, lapse := 4000 } ∧
      4000 ≤ (reserved.withClock 4000 4).ms ∧ reserved.ms < 4000 := by
  unfold NoResetDue; decide +kernel
theorem test_meets_CadenceRunAndStop :
    NoResetDue .press plant ∧ running.dsp.state = .run ∧ plant.dsp.state ≠ .run ∧
      State.reset.permit = false ∧ plant.permit = true ∧ plant.pst.budget = 0 ∧
      0 < (plant.withPst running.pst).pst.budget ∧ (pushing .uncertain).trk.state = .uncertain ∧
      plant.trk.state ≠ .uncertain ∧ plant.dsp.state = .stopped := by
  unfold NoResetDue; decide +kernel
theorem test_meets_DispatchStatusReports : NoResetDue .loader running := by
  unfold NoResetDue; decide +kernel
theorem test_meets_DispatchExpiry :
    (running.withDsp { running.dsp with pendingCadence := some 0 }).dsp.pendingCadence = some 0 ∧
      running.dsp.pendingCadence = none ∧ plant.dsp.state ≠ .run ∧ running.ilc.round = none ∧
      (polling .z1).ilc.round ≠ none ∧ running.ms < running.dsp.timerExpiry ∧
      running.dsp.timerExpiry ≤ (running.withClock 50 0).ms := by decide +kernel
theorem test_meets_DemandOfRecord :
    (steel 41 150 925 6022 5513).marks.overheated = false ∧
      6022 + 150 < (recipeFields running 5).tsMax ∧ zoneStart running .z3 ≤ 1000 ∧
      1000 < zoneEnd running .z3 ∧ rowLength running ≤ 3200 ∧ running.dsp.inferred = false ∧
      running.dsp.cadence = .running 4000 ∧ plant.dsp.cadence = .hold ∧
      (recipeFields running 5).tsMax ≤ 12350 + 150 := by decide +kernel
theorem test_meets_GrantsFollowDemands :
    (running.withClock 50 0).dsp.timerExpiry ≤ (running.withClock 50 0).ms ∧
      (running.withClock 50 0).dsp.state = .run ∧ (running.zones.get .z8).state = .active ∧
      (State.reset.zones.get .z8).state ≠ .active := by decide +kernel
theorem test_meets_PermitLostStops : running.permit = true ∧ State.reset.permit = false := by decide +kernel
theorem test_meets_ZoneRestoreEndsFault : 8 < 9 ∧ ZoneNo.z1.number = 1 ∧ ZoneNo.z8.number = 8 := by decide
theorem test_meets_PollOutcomes :
    (polling .z5).ilc.round.map (·.poll.channel) = some .z5 ∧ ZoneNo.z6.number = ZoneNo.z5.number + 1 ∧
      reply5.start = 0x72 ∧ reply5.channel = ZoneNo.z5.number ∧ statusOf reply5.status = some .ok ∧
      byteSum
          (leBytes 1 reply5.channel ++ leBytes 1 reply5.status ++ leBytes 3 reply5.energy ++
            leBytes 2 reply5.meanPower ++ leBytes 1 reply5.check) = 0 ∧
      byteSum
          (leBytes 1 reply5.channel ++ leBytes 1 reply5.status ++ leBytes 3 reply5.energy ++
            leBytes 2 reply5.meanPower ++ leBytes 1 0xB7) ≠ 0 ∧
      (polling .z5).ilc.round.map (·.poll.spoiled) = some false ∧
      (spoiledPoll .z5).ilc.round.map (·.poll.spoiled) = some true ∧
      byteSum (leBytes 1 5 ++ leBytes 1 4 ++ leBytes 3 0 ++ leBytes 2 0 ++ leBytes 1 0xF7) = 0 ∧ 3 < 4 ∧
      byteSum (leBytes 1 6 ++ leBytes 1 3 ++ leBytes 3 0 ++ leBytes 2 0 ++ leBytes 1 0xF7) = 0 ∧
      6 ≠ ZoneNo.z5.number ∧ (polling .z5).ilc.replied.z6 = false ∧
      (after (.inverterReply reply5) (polling .z5)).ilc.round.map (·.poll.channel) = some .z6 ∧
      (after (.inverterReply reply5) (polling .z5)).ilc.replied.z5 = true := by decide +kernel
theorem test_meets_RoundCompletes :
    (polling .z8).ilc.round.map (·.poll.channel) = some .z8 ∧ (polling .z8).ilc.entries.z7 ≠ none ∧
      (polling .z8).ilc.waiting = none ∧ statusOf 3 = some .mainsLow ∧ plant.ilc.round = none ∧
      (polling .z8).ilc.round.map (·.poll.spoiled) = some false ∧
      (∀ z ∈ ZoneNo.all, z ≠ .z8 → (polling .z8).ilc.entries.get z ≠ none) ∧
      byteSum (leBytes 1 8 ++ leBytes 1 3 ++ leBytes 3 0 ++ leBytes 2 0 ++ leBytes 1 0xF5) = 0 ∧
      byteSum (leBytes 1 8 ++ leBytes 1 3 ++ leBytes 3 0 ++ leBytes 2 0 ++ leBytes 1 0xF4) ≠ 0 := by
  decide +kernel
theorem test_meets_SharesAndTwoNodeUpdate :
    (PerZone.const (.energy 999) : RoundRecord).get .z1 = .energy 999 ∧
      (PerZone.const .void : RoundRecord).get .z8 = .void ∧
      0 < ((loaded .ready).trk.row.map (overlap (loaded .ready) .z1)).sum := by decide +kernel
-- The worked example's rises: 2343 J into the surface part 498,750 and 1407 J into the core 1,496,250.
theorem test_meets_SharesAndTwoNodeUpdate_rises :
    let surface := recipe5.cap * 150 * recipe5.surf / 256
    let core := recipe5.cap * 150 - surface
    let es := 3750 * recipe5.skin / 256
    0 < surface ∧ 0 < core ∧ 2 * 47 * surface ≤ 2 * (es * 10000) + surface ∧
      2 * (es * 10000) + surface < 2 * 48 * surface ∧
      2 * 9 * core ≤ 2 * ((3750 - es) * 10000) + core ∧
      2 * ((3750 - es) * 10000) + core < 2 * 10 * core := by decide +kernel
theorem test_meets_RoundRecordUpdates :
    (loaded .suspect).est.lastRound = none ∧ 50 = (loaded .suspect).pst.period ∧
      (loaded .suspect).trk.gate.map (·.verdict) = [.suspect] := by decide +kernel
theorem test_meets_RoundReevaluatesFront :
    (loaded .under).trk.gate.map (·.verdict) = [.under] ∧
      (loaded .ready).trk.gate.map (·.verdict) = [.ready] := by decide +kernel
theorem test_meets_CorrectionMovesSurface :
    (loaded .ready).trk.gate.map (·.billet.tag) = [47] ∧ (47 : Nat) ≠ 22 ∧
      (loaded .ready).evu.phase = .decided ∧ plant.evu.phase = .noFront ∧
      (fresh .awaiting).evu.phase = .awaiting ∧ (fresh .settling).evu.phase = .settling ∧
      (loaded .over).evu.phase = .decided := by decide +kernel
theorem test_meets_PyrometerInputs :
    (pushing .pushing).trk.state = .pushing ∧ (loaded .ready).trk.state ≠ .pushing ∧
      ((loaded .ready).withPst { plant.pst with positionA := 949 }).pst.positionA < 450 + 500 ∧
      (loaded .ready).trk.row = [] ++ steel 22 500 450 6000 5500 :: [steel 27 450 0 200 200] ∧
      (loaded .ready).pya.frame = [] ∧ byteSum [0xC3, 0xB8, 0x0B, 0x7A] = 0 ∧
      (0xB8 : Byte).toNat + 256 * (0x0B : Byte).toNat = 3000 ∧ byteSum [0xC3, 0xB0, 0x36, 0x57] = 0 ∧
      (0xB0 : Byte).toNat + 256 * (0x36 : Byte).toNat = 14000 ∧ byteSum [0xC3, 0xB1, 0x36, 0x57] ≠ 0 ∧
      (after (.sampleFrameStart .a) plant).pya.frame = [0xC3] ∧
      (after (.pyrometerSample .a [0x00]) (after (.sampleFrameStart .a) plant)).pya.frame = [0xC3, 0x00] ∧
      (after (.pyrometerSample .a [0xC3, 0x7A, 0x00]) plant).pya.frame = [0xC3, 0x7A, 0x00] ∧
      byteSum [0xC3, 0x7A, 0x00, 0xC3] = 0 ∧ byteSum [0xC3, 0x7B, 0x00, 0xC3] ≠ 0 := by
  decide +kernel
theorem test_meets_VerdictByFirstLine :
    (steel 47 150 0 12200 11000).recipe ≠ 0 ∧ (steel 47 150 0 12200 11000).marks.overheated = false ∧
      (steel 47 150 0 12200 11000).estimate = .tracked ∧ recipe5.acceptMeasured = 0 ∧
      recipe5.tsHi < 12201 ∧ 11499 < recipe5.tsLo := by decide +kernel
theorem test_meets_ExitSamples :
    plant.evu.phase = .noFront ∧ (fresh .settling).evu.phase = .settling ∧
      (fresh .awaiting).evu.phase = .awaiting ∧ (fresh .awaiting).trk.gate.length = 1 ∧
      (loaded .ready).evu.phase = .decided ∧ (loaded .ready).trk.gate.length = 1 ∧
      (fresh .awaiting).pyb.frame = [] ∧ (loaded .ready).pyb.frame = [] ∧
      byteSum [0xC3, 0xB7, 0x0B, 0x7B] = 0 ∧ (0xB7 : Byte).toNat + 256 * (0x0B : Byte).toNat = 2999 ∧
      byteSum [0xC3, 0xB8, 0x0B, 0x7A] = 0 ∧
      (after (.pyrometerSample .b [0xC3, 0xB8, 0x0B]) (fresh .awaiting)).pyb.frame = [0xC3, 0xB8, 0x0B] ∧
      (after (.pyrometerSample .b [0xC3, 0xB8, 0x0B]) (fresh .awaiting)).evu.phase = .awaiting ∧
      byteSum [0xC3, 0x7A, 0x00, 0xC3] = 0 := by decide +kernel
theorem test_meets_FrontTimersExpire :
    (fresh .settling).evu.phase = .settling ∧ (fresh .settling).evu.settle = some 300 ∧
      300 ≤ ((fresh .settling).withClock 300 0).ms ∧ ((fresh .settling).withClock 299 0).ms < 300 ∧
      plant.evu.settle = none ∧ plant.evu.wait = none ∧
      (fresh .awaiting).evu.phase = .awaiting ∧ (fresh .awaiting).evu.wait = some 1000 ∧
      1000 ≤ ((fresh .awaiting).withClock 1000 1).ms ∧ ((fresh .awaiting).withClock 999 0).ms < 1000 ∧
      (fresh .awaiting).trk.gate.length = 1 := by decide +kernel
theorem test_meets_LotOpenAdjustAndAbort :
    recipeValidity plant 15 ≠ 0 ∧ recipeValidity plant 5 = 0 ∧
      (plant.withLot { plant.lot with queue := [lot14, lot14] }).lot.queue.length = 2 ∧
      plant.lot.queue = [lot14] ∧ 0 < lot14.toLoad ∧
      (∀ l ∈ (plant.withLot { plant.lot with queue := [{ lot14 with toLoad := 0 }] }).lot.queue,
        l.toLoad = 0) ∧
      BitVec.toInt (0x10 : BitVec 8) ∈ [-16, -8, -4, -1, 1, 4, 8, 16] ∧
      BitVec.toInt (0x11 : BitVec 8) ∉ [-16, -8, -4, -1, 1, 4, 8, 16] ∧
      (plant.withLot State.reset.lot).lot.queue = [] ∧ plant.lot.queue = [] ++ [lot14] := by decide +kernel
theorem test_meets_LotStatusReports :
    NoResetDue .press changeover ∧ changeover.lot.queue.getLast? = some lot14 ∧
      changeover.lot.lastRecipe = some 7 ∧ 7 ≠ lot14.recipe ∧ plant.lot.lastRecipe = some lot14.recipe := by
  unfold NoResetDue; decide +kernel
theorem test_meets_RequestRoundTrip :
    (Instr.cadence .press (.items 65535)).wf = true ∧
      (Instr.cadence .press (.items 65535)).station = some .press ∧
      encodeRequest (.cadence .press (.items 65535)) = some (0x23, [0xFF, 0xFF]) := by decide
/-- A state in which every relation holds, with all its parts in use. -/
def safeState : State :=
  (((pushing .pushing).withDsp running.dsp).withPending [.permitPresent]).withZones (.const heater)
theorem test_meets_StepKeepsTrack :
    (∃ t, step safeState = .next t) ∧ PushMatchesState safeState ∧ TagsDistinct safeState ∧
      RecordsInRange safeState ∧ PositionsKept safeState ∧ CapacityKept safeState := by
  refine ⟨⟨_, rfl⟩, by decide +kernel, by decide +kernel, by decide +kernel, ⟨?_, by decide +kernel, ?_⟩,
    by decide +kernel⟩
  · exact ⟨rfl, by decide +kernel, rfl, by decide +kernel⟩
  · intro z
    cases z <;> decide +kernel
theorem test_meets_StepKeepsGateTimed : (∃ t, step safeState = .next t) ∧ GateTimed safeState := by
  refine ⟨⟨_, rfl⟩, by decide +kernel, by decide +kernel, by decide +kernel, by decide +kernel,
    by decide +kernel, by decide +kernel, by decide +kernel, by decide +kernel, by decide +kernel,
    fun r h => ⟨_, rfl, ?_, rfl⟩⟩
  cases h
  rfl
theorem test_meets_StepKeepsGateTimed_timers :
    (fresh .settling).evu.settle = some 300 ∧ (fresh .settling).evu.wait = some 1000 ∧
      (gateFront (fresh .settling)).bind (·.frontTime) = some 0 ∧ (fresh .settling).evu.exitM = none ∧
      (loaded .ready).evu.phase = .decided ∧ (loaded .ready).evu.exitM = some 12050 := by decide +kernel
theorem test_meets_StepKeepsPower :
    (∃ t, step safeState = .next t) ∧ DispatcherSafe safeState ∧ ZonesConsistent safeState := by
  refine ⟨⟨_, rfl⟩,
    ⟨by decide +kernel, by decide +kernel, by decide +kernel, by decide +kernel, ?_, by decide +kernel⟩, ?_, ?_,
    (fun _ h => nomatch h), (fun _ h => nomatch h)⟩
  · intro c h
    cases h
    decide
  · intro z
    cases z <;> decide +kernel
  · intro z
    cases z <;> decide +kernel
theorem test_meets_StepKeepsRecipes :
    (∃ t, step safeState = .next t) ∧ recipeInUse safeState 5 = true ∧ recipeValidity safeState 5 = 0 ∧
      safeState.pst.recipes.length = 15 ∧ (∀ r ∈ safeState.pst.recipes, r.fieldsInRange) ∧
      ∀ st, (safeState.links.get st).pointer.named = true := by
  refine ⟨⟨_, rfl⟩, by decide +kernel, by decide +kernel, by decide +kernel, ?_, ?_⟩
  · unfold Recipe.fieldsInRange
    decide +kernel
  · intro st
    cases st <;> decide
theorem test_meets_StepKeepsRecipes_in_use (n : Nat) (h : recipeInUse safeState n = true) : n = 5 := by
  have h' : (recipeInUse safeState n = true) =
      ((5 == n || (5 == n || false)) || (5 == n || false) || 5 == n || (5 == n || false)) := rfl
  rw [h'] at h
  simp at h
  omega
theorem test_meets_LotAccountKept :
    (∃ t, step safeState = .next t) ∧ LotsInShape safeState ∧
      safeState.lot.nextNumber ∉ lotNumbers safeState ∧ LotLaw safeState := by
  refine ⟨⟨_, rfl⟩, by decide +kernel, by decide +kernel, by decide +kernel⟩
theorem test_meets_StepKeepsLinks :
    (∃ t, step safeState = .next t) ∧ LinksConsistent safeState ∧ InputsConsistent safeState := by
  refine ⟨⟨_, rfl⟩, ⟨?_, ?_, ?_, by decide +kernel⟩, fun src => by cases src <;> decide +kernel⟩
  · intro st
    cases st <;> exact ⟨by decide, by decide, by decide, by decide, by decide, by decide, by decide,
      fun bytes h => nomatch h⟩
  · intro st _ f
    cases st <;> exact fun h => nomatch h
  · intro st _
    cases st <;> rfl

end Sys2Proof.Tests
end

section
/-! PROOFS. The evaluation of a verdict, line by line (R102), with the window test of a TRACKED record (R103)
and the measured band of an UNTRACKED one (R104). -/

namespace Sys2Proof.Machine

/-! ### The measured band (R104) -/

section MeasuredBand
variable {f : RecipeFields} {m : Nat}

theorem measuredBand_eq_ready_iff : measuredBand f m = .ready ↔ f.tsLo ≤ m ∧ m ≤ f.tsHi := by
  unfold measuredBand
  split
  · simp; omega
  · split
    · simp; omega
    · simp; omega

theorem measuredBand_eq_under (hlo : m < f.tsLo) : measuredBand f m = .under := if_pos hlo

theorem measuredBand_eq_over (hlo : f.tsLo ≤ m) (hhi : f.tsHi < m) : measuredBand f m = .over := by
  simp [measuredBand, hlo.not_gt, hhi]

end MeasuredBand

/-! ### The window test (R103) -/

section WindowTest
variable {f : RecipeFields} {ts tc : Nat} {exitM : Option Nat}

theorem windowTest_eq_over (hhot : f.tsHi < max ts (exitM.getD 0)) :
    windowTest f ts tc exitM = .over := if_pos hhot

theorem windowTest_eq_under (hhot : max ts (exitM.getD 0) ≤ f.tsHi) (hcold : ts < f.tsLo ∨ tc < f.tcMin) :
    windowTest f ts tc exitM = .under :=
  (if_neg hhot.not_gt).trans (if_pos hcold)

theorem windowTest_eq_ready (hhot : max ts (exitM.getD 0) ≤ f.tsHi) (hts : f.tsLo ≤ ts)
    (htc : f.tcMin ≤ tc) : windowTest f ts tc exitM = .ready :=
  (if_neg hhot.not_gt).trans (if_neg (not_or.2 ⟨hts.not_gt, htc.not_gt⟩))

end WindowTest

/-! ### The lines of the evaluation (R102) -/

section Lines
variable {f : RecipeFields} {b : Billet} {exitM : Option Nat}

theorem evaluate_of_recipe_zero (h : b.recipe = 0) : evaluate f b exitM = .spacer := if_pos h

theorem evaluate_of_overheated (hr : b.recipe ≠ 0) (hheat : b.marks.overheated = true) :
    evaluate f b exitM = .over := by
  simp [evaluate, hr, hheat]

theorem evaluate_of_overdwell (hr : b.recipe ≠ 0) (hheat : b.marks.overheated = false)
    (hdw : b.marks.overdwell = true) : evaluate f b exitM = .overdwell := by
  simp [evaluate, hr, hheat, hdw]

theorem evaluate_of_untracked_unmeasured (hr : b.recipe ≠ 0) (hheat : b.marks.overheated = false)
    (hdw : b.marks.overdwell = false) (he : b.estimate = .untracked)
    (hno : f.acceptMeasured = 0 ∨ exitM = none) : evaluate f b exitM = .suspect := by
  cases exitM with
  | none => simp [evaluate, hr, hheat, hdw, he]
  | some m =>
    have hacc : f.acceptMeasured = 0 := hno.resolve_right (Option.some_ne_none m)
    simp [evaluate, hr, hheat, hdw, he, hacc]

theorem evaluate_of_untracked_measured {m : Nat} (hr : b.recipe ≠ 0) (hheat : b.marks.overheated = false)
    (hdw : b.marks.overdwell = false) (he : b.estimate = .untracked) (hacc : f.acceptMeasured ≠ 0) :
    evaluate f b (some m) = measuredBand f m := by
  simp [evaluate, hr, hheat, hdw, he, hacc]

theorem evaluate_of_tracked (hr : b.recipe ≠ 0) (hheat : b.marks.overheated = false)
    (hdw : b.marks.overdwell = false) (he : b.estimate = .tracked) :
    evaluate f b exitM = windowTest f b.ts b.tc exitM := by
  simp [evaluate, hr, hheat, hdw, he]

end Lines

/-- Settles O49: each line of R102 by its own equation, lines 5 and 6 by the cases of R104 and R103. -/
theorem verdictByFirstLine : Obligations.VerdictByFirstLine := by
  intro f b exitM
  refine ⟨evaluate_of_recipe_zero, fun hr =>
    ⟨evaluate_of_overheated hr, evaluate_of_overdwell hr, fun hheat hdw =>
      ⟨evaluate_of_untracked_unmeasured hr hheat hdw, ?measured, ?tracked⟩⟩⟩
  case measured =>
    rintro m he hacc rfl
    rw [evaluate_of_untracked_measured hr hheat hdw he hacc]
    exact ⟨measuredBand_eq_ready_iff, measuredBand_eq_under, measuredBand_eq_over⟩
  case tracked =>
    intro he hc
    have hhc : hc = max b.ts (exitM.getD 0) := by
      cases exitM with
      | none => exact (Nat.max_zero b.ts).symm
      | some m => exact max_comm m b.ts
    rw [evaluate_of_tracked hr hheat hdw he, hhc]
    exact ⟨windowTest_eq_over, windowTest_eq_under, windowTest_eq_ready⟩

end Sys2Proof.Machine
end

section
/-! PROOFS. The notice commands NOTICE READ, NOTICE CLEAR and NOTICE MASK, and the attention output that
follows from a station's set and mask (R155 to R158). -/

namespace Sys2Proof.Machine

/-! ### Sets of kinds, kind by kind -/

/-- Two sets share a kind exactly when one of the twelve kinds is in both. -/
theorem kinds_shared_iff (a b : KindSet) :
    a &&& b ≠ 0 ↔ ∃ k < 12, a.getLsbD k = true ∧ b.getLsbD k = true := by
  simp [BitVec.eq_of_getLsbD_eq_iff]

/-- The attention output is asserted exactly while the set and the mask share a kind (R155). -/
theorem attention_iff (s : State) (st : Station) :
    attention s st = true ↔
      ∃ k < 12, (s.ntc.get st).pending.getLsbD k = true ∧ (s.ntc.get st).mask.getLsbD k = true := by
  rw [attention, decide_eq_true_iff, kinds_shared_iff]

/-- Bits 12 to 15 of a payload are ignored, and the twelve kinds are read as they stand (R150). -/
theorem getLsbD_payloadKinds (kinds : BitVec 16) {k : Nat} (hk : k < 12) :
    (kinds.setWidth 12).getLsbD k = kinds.getLsbD k := by
  simp [hk]

/-- A kind is left by a clear when it was pending and is not named (R157). -/
theorem getLsbD_cleared (pending : KindSet) (kinds : BitVec 16) {k : Nat} (hk : k < 12) :
    (pending &&& ~~~(kinds.setWidth 12)).getLsbD k = (pending.getLsbD k && !kinds.getLsbD k) := by
  rw [BitVec.getLsbD_and, BitVec.getLsbD_not, getLsbD_payloadKinds kinds hk]
  simp [hk]

/-! ### The highest-priority kind (R156) -/

theorem highestKind_zero : highestKind 0 = none := by decide

theorem highestKind_eq_some {pending : KindSet} {k : Nat} (hk : k < 12)
    (hin : pending.getLsbD k = true) (hlow : ∀ j < k, pending.getLsbD j = false) :
    highestKind pending = some k :=
  List.find?_range_eq_some.2 ⟨hin, List.mem_range.2 hk, fun j hj => by simp [hlow j hj]⟩

/-- The byte in which NOTICE READ gives the highest-priority kind. -/
def highestByte (pending : KindSet) : Byte :=
  ((highestKind pending).map (BitVec.ofNat 8)).getD 0xFF

theorem optBytes_highestKind (pending : KindSet) :
    optBytes 1 (highestKind pending) = [highestByte pending] := by
  unfold highestByte
  cases highestKind pending <;> rfl

theorem highestByte_zero : highestByte 0 = 0xFF := by
  rw [highestByte, highestKind_zero]
  rfl

theorem highestByte_eq {pending : KindSet} {k : Nat} (hk : k < 12)
    (hin : pending.getLsbD k = true) (hlow : ∀ j < k, pending.getLsbD j = false) :
    highestByte pending = BitVec.ofNat 8 k := by
  rw [highestByte, highestKind_eq_some hk hin hlow]
  rfl

/-! ### The commands and their answers -/

/-- The three notice commands are permitted to every station (R150). -/
theorem permitted_notice (st : Station) : ∀ code ∈ [0x01, 0x02, 0x03], permitted code st = true := by
  cases st <;> decide

section
variable {st : Station} {s : State}

theorem answers_noticeRead (h : NoResetDue st s) :
    Answers (.noticeRead st (.items ())) st s
      (setNotices st { s.ntc.get st with snapshot := (s.ntc.get st).pending } s)
      { status := .ok
        payload :=
          kindBytes (s.ntc.get st).pending ++ [highestByte (s.ntc.get st).pending] ++
            kindBytes ((s.ntc.get st).pending &&& ~~~(s.ntc.get st).snapshot) } := by
  rw [← optBytes_highestKind]
  exact answers_of_owner (owner := fun _ => ntcRead st) rfl (permitted_notice st _ (by simp)) h rfl

theorem answers_noticeClear (kinds : BitVec 16) (h : NoResetDue st s) :
    Answers (.noticeClear st (.items kinds)) st s
      (setNotices st
        { s.ntc.get st with pending := (s.ntc.get st).pending &&& ~~~(kinds.setWidth 12) } s)
      { status := .ok
        payload := kindBytes ((s.ntc.get st).pending &&& ~~~(kinds.setWidth 12)) } :=
  answers_of_owner (owner := ntcClear st) rfl (permitted_notice st _ (by simp)) h rfl

theorem answers_noticeMask (kinds : BitVec 16) (h : NoResetDue st s) :
    Answers (.noticeMask st (.items kinds)) st s
      (setNotices st { s.ntc.get st with mask := kinds.setWidth 12 } s)
      { status := .ok
        payload := kindBytes (kinds.setWidth 12) ++ kindBytes (s.ntc.get st).pending } :=
  answers_of_owner (owner := ntcMask st) rfl (permitted_notice st _ (by simp)) h rfl

end

/-! ### The attention output after a notice command -/

theorem attention_setNotices_iff (st : Station) (n : Notices) (s : State) :
    attention (setNotices st n s) st = true ↔
      ∃ k < 12, n.pending.getLsbD k = true ∧ n.mask.getLsbD k = true := by
  simp [attention_iff, setNotices]

theorem attention_after_clear_iff (st : Station) (kinds : BitVec 16) (s : State) :
    attention
        (setNotices st
          { s.ntc.get st with pending := (s.ntc.get st).pending &&& ~~~(kinds.setWidth 12) } s)
        st = true ↔
      ∃ k < 12, (s.ntc.get st).pending.getLsbD k = true ∧ kinds.getLsbD k = false ∧
        (s.ntc.get st).mask.getLsbD k = true := by
  rw [attention_setNotices_iff]
  refine exists_congr fun k => and_congr_right fun hk => ?_
  rw [getLsbD_cleared _ _ hk, Bool.and_eq_true, Bool.not_eq_true', and_assoc]

theorem attention_after_mask_iff (st : Station) (kinds : BitVec 16) (s : State) :
    attention (setNotices st { s.ntc.get st with mask := kinds.setWidth 12 } s) st = true ↔
      ∃ k < 12, (s.ntc.get st).pending.getLsbD k = true ∧ kinds.getLsbD k = true := by
  rw [attention_setNotices_iff]
  refine exists_congr fun k => and_congr_right fun hk => ?_
  rw [getLsbD_payloadKinds kinds hk]

/-! ### The obligations -/

/-- Settles O13: the byte of the highest kind is all ones for the empty set and else the order of the
first pending kind. -/
theorem noticeReadGivesSet : Obligations.NoticeReadGivesSet := by
  intro st s h
  refine ⟨highestByte (s.ntc.get st).pending, fun h0 => ?empty, fun k hk hin hlow => ?pending,
    answers_noticeRead h⟩
  case empty => rw [h0, highestByte_zero]
  case pending => exact highestByte_eq hk hin hlow

/-- Settles O14: both commands replace one set of the caller, kind by kind as the payload names it, and
the attention output is read off the new items. -/
theorem noticeClearAndMask : Obligations.NoticeClearAndMask := by
  constructor
  · intro st kinds s h
    exact ⟨_, _, fun k hk => getLsbD_cleared _ kinds hk, rfl, answers_noticeClear kinds h,
      attention_after_clear_iff st kinds s⟩
  · intro st kinds s h
    exact ⟨_, _, fun k hk => getLsbD_payloadKinds kinds hk, rfl, answers_noticeMask kinds h,
      attention_after_mask_iff st kinds s⟩

end Sys2Proof.Machine
end

section
/-! PROOFS. What a row can do to the blocks other than the link units, said once: a station command is a
telling of an owed link reset, the owner's rule and the reply (`exec_act`), and a step is a row or a
millisecond (`step_cases`). The relations that every step keeps are derived from these two. -/

namespace Sys2Proof.Machine

/-! ### States that differ in their link units alone -/

/-- Every block but the link units is the same. -/
def SameButLinks (s t : State) : Prop := t.withLinks s.links = s

theorem SameButLinks.refl (s : State) : SameButLinks s s := rfl

theorem SameButLinks.symm {s t : State} (h : SameButLinks s t) : SameButLinks t s := by
  unfold SameButLinks at h ⊢
  rw [← h]
  rfl

theorem SameButLinks.trans {s t u : State} (h : SameButLinks s t) (h' : SameButLinks t u) :
    SameButLinks s u := by
  unfold SameButLinks at h h' ⊢
  rw [← h, ← h']
  rfl

theorem OnlyLink.sameButLinks {st : Station} {s t : State} (h : OnlyLink st s t) : SameButLinks s t :=
  h.1

theorem SameButLinks.setLink (st : Station) (l : Link) (s : State) : SameButLinks s (setLink st l s) :=
  (setLink_onlyLink st l s).sameButLinks

theorem SameButLinks.reply (st : Station) (c : Instr) (a : Answer) (s : State) :
    SameButLinks s (reply st c a s) := (reply_spec st c a s).1.sameButLinks

/-- A relation that does not read the link units holds of both states. -/
theorem SameButLinks.keeps {P : State → Prop} (hP : ∀ s l, P s → P (s.withLinks l)) {s t : State}
    (h : SameButLinks s t) (hs : P s) : P t := by
  rw [← h.symm]
  exact hP s _ hs

theorem SameButLinks.loseReservation {s t : State} (h : SameButLinks s t) :
    SameButLinks (loseReservation s) (loseReservation t) := by
  rw [← h.symm]
  unfold Machine.loseReservation
  cases hp : s.phu with
  | none => simp [hp, SameButLinks]
  | some r => simp [hp, SameButLinks, raise]; rfl

/-! ### The telling of a link reset (R120) -/

/-- PHU is told of a link reset: its reservation is lost, and the units keep their pointers. -/
theorem tellReset_spec (s : State) :
    SameButLinks (loseReservation s) (tellReset s) ∧
      ∀ st, pointer (tellReset s) st = pointer s st := by
  have hl : (loseReservation (setLink .press { s.links.press with resetOwed := false } s)).links =
      s.links.set .press { s.links.press with resetOwed := false } := by
    unfold loseReservation
    split <;> rfl
  constructor
  · exact ((SameButLinks.setLink .press _ s).loseReservation).trans (.setLink ..)
  · intro st
    unfold tellReset takeFrame pointer
    rw [setLink_links, hl]
    cases st with
    | press => simp [PerStation.get, PerStation.set]
    | loader => rfl
    | supervisor => rfl

/-- A command starts from the state as it stands, or from the one in which PHU has been told of a link
reset; the pointers stay. -/
theorem settleReset_spec (st : Station) (s : State) :
    (SameButLinks s (settleReset st s) ∨ SameButLinks (loseReservation s) (settleReset st s)) ∧
      ∀ x, pointer (settleReset st s) x = pointer s x := by
  unfold settleReset
  split
  · exact ⟨.inr (tellReset_spec s).1, (tellReset_spec s).2⟩
  · exact ⟨.inl (.refl s), fun _ => rfl⟩

/-! ### What a row does -/

/-- What a command or event does to the blocks other than the link units, with the conditions under which it
does so. A refusal, and a row that is not due, are `same`. -/
inductive Act : Instr → State → State → Prop
  | same (i : Instr) (s : State) : Act i s s
  | linkErrors (i : Instr) (st : Station) (s : State) (n : PerStation Notices)
      (h : LinkErrorOnly st s.ntc n) : Act i s (s.withNtc n)
  | loses (i : Instr) (s : State) : Act i s (loseReservation s)
  | noticeRead (st : Station) (s : State) : Act (.noticeRead st (.items ())) s (ntcRead st s).1
  | noticeClear (st : Station) (kinds : BitVec 16) (s : State) :
      Act (.noticeClear st (.items kinds)) s (ntcClear st kinds s).1
  | noticeMask (st : Station) (kinds : BitVec 16) (s : State) :
      Act (.noticeMask st (.items kinds)) s (ntcMask st kinds s).1
  | deposit (st : Station) (x : DepositArgs) (s : State) (a : FieldAddress)
      (ha : resolve (pointer s st) x.address = some a)
      (h : depositRefusal s a (fitField s a x.value) = none) :
      Act (.deposit st (.items x)) s (storeField a (fitField s a x.value) s)
  | loadRecipe (st : Station) (x : LoadArgs) (s : State) (h0 : x.slot ≠ 0) (h15 : x.slot ≤ 15)
      (h : recipeInUse s x.slot = false) :
      Act (.loadRecipe st (.items x)) s
        (storeRecipe x.slot { fields := fitFields x.fields, written := BitVec.allOnes 23 } s)
  | pushRequest (st : Station) (x : PushArgs) (s : State) (lot : Nat) (h : pushChecks s x = .ok lot) :
      Act (.pushRequest st (.items x)) s
        (s.withTrk
          { s.trk with
            push := some (grantedPush s x lot), state := .pushing, timer := some (s.ms + 10000) })
  | pushDone (st : Station) (x : PushDoneArgs) (s : State) (p : PendingPush) (hst : st = .loader)
      (hs : s.trk.state = .pushing) (hp : s.trk.push = some p) (ht : x.tag = p.tag)
      (hw : withinTolerance x.stroke p.length = true) :
      Act (.pushDone st (.items x)) s (applyPush p .tracked s)
  | slips (i : Instr) (s : State) (hs : s.trk.state = .pushing) : Act i s (enterUncertain s)
  | pushCancel (i : Instr) (s : State) (hs : s.trk.state = .pushing) : Act i s (dropPush s)
  | pushTimerStops (i : Instr) (s : State) (hs : s.trk.state ≠ .pushing) :
      Act i s (s.withTrk { s.trk with timer := none })
  | resyncNotApplied (st : Station) (d : Nat) (s : State) (hst : st = .supervisor) (hd : d ≤ 1)
      (hs : s.trk.state = .uncertain) : Act (.resync st (.items d)) s (resyncNotApplied s)
  | resyncApplied (st : Station) (s : State) (p : PendingPush) (hst : st = .supervisor)
      (hs : s.trk.state = .uncertain) (hp : s.trk.push = some p) :
      Act (.resync st (.items 1)) s (dispatcherUnblocks (applyPush p .untracked s))
  | purge (st : Station) (s : State) (hst : st = .supervisor) :
      Act (.purge st (.items ())) s (purgeTrack s)
  | reserve (i : Instr) (s : State) (g : GateBillet) (hg : gateFront s = some g)
      (hv : g.verdict = .ready) :
      Act i s (s.withPhu (some { tag := g.billet.tag, lapse := s.ms + 4000 }))
  | take (st : Station) (tag : Nat) (s : State) (g : GateBillet) (hst : st = .press) (h0 : tag ≠ 0)
      (hr : s.phu.map (·.tag) = some tag) (hg : gateFront s = some g) (ht : g.billet.tag = tag) :
      Act (.take st (.items tag)) s (handOver Lot.forge g.billet s)
  | discard (st : Station) (tag : Nat) (s : State) (g : GateBillet) (hst : st = .press)
      (hg : gateFront s = some g) (ht : g.billet.tag = tag) :
      Act (.discard st (.items tag)) s (handOver Lot.reject g.billet s)
  | cadence (i : Instr) (v : Nat) (s : State) :
      Act i s (s.withDsp { s.dsp with pendingCadence := some (storedCadence v) })
  | run (i : Instr) (s : State) (hs : s.dsp.state ≠ .run) (h : runRefusal s = none) :
      Act i s (s.withDsp { s.dsp with state := .run })
  | stop (i : Instr) (s : State) : Act i s (haltHeating .stopped s)
  | zoneRestore (i : Instr) (z : ZoneNo) (s : State) :
      Act i s (s.withZones (s.zones.set z (s.zones.get z).restored))
  | lotOpen (i : Instr) (x : LotOpenArgs) (s : State) (h : openRefusal s x.recipe = none) :
      Act i s
        (s.withLot
          { s.lot with
            queue :=
              s.lot.queue ++
                [{ number := s.lot.nextNumber, recipe := x.recipe, toLoad := clamp 1 9999 x.count
                   loaded := 0, forged := 0, rejected := 0, lost := 0 }]
            nextNumber := nextLotNumber s.lot.nextNumber })
  | newestLoad (i : Instr) (toLoad : Nat) (s : State) (h : toLoad ≤ 9999) :
      Act i s (setNewestLoad toLoad s)
  | permitLost (s : State) (h : s.permit = true) :
      Act .permitLost s
        (dispatchExpires (makeExpiryDue (raise .permitOff (haltHeating .stopped (s.withPermit false)))))
  | permitPresent (s : State) : Act .permitPresent s (s.withPermit true)
  | dispatchExpiry (i : Instr) (s : State) : Act i s (dispatchExpires s)
  | inverterReply (i : Instr) (r : InverterFrame) (s : State) : Act i s (takeReply r s)
  | windowCloses (i : Instr) (s : State) : Act i s (closeWindow s)
  | round (i : Instr) (r : RoundRecord) (s : State) : Act i s (takeRound r s)
  | correction (i : Instr) (c : Correction) (s : State) : Act i s (takeCorrection c s)
  | samples (i : Instr) (src : Pyro) (bytes : List Byte) (s : State) : Act i s (receiveSample src bytes s)
  | hunts (i : Instr) (src : Pyro) (s : State) : Act i s (huntPyro src s)
  | settles (i : Instr) (s : State) : Act i s (settleExpires s)
  | waits (i : Instr) (s : State) : Act i s (waitExpires s)

/-- The bytes of a frame change link units, and raise LINK_ERROR for their own station at most. -/
theorem receiveBytes_act (i : Instr) (st : Station) (bytes : List Byte) (s : State) :
    ∃ u, Act i s u ∧ SameButLinks u (bytes.foldl (receiveByte st) s) := by
  have key : ∀ t : State, SameButLinks s (t.withNtc s.ntc) →
      (t.ntc = s.ntc ∨ LinkErrorOnly st s.ntc t.ntc) →
      SameButLinks s ((bytes.foldl (receiveByte st) t).withNtc s.ntc) ∧
        ((bytes.foldl (receiveByte st) t).ntc = s.ntc ∨
          LinkErrorOnly st s.ntc (bytes.foldl (receiveByte st) t).ntc) := by
    induction bytes with
    | nil => exact fun t h1 h2 => ⟨h1, h2⟩
    | cons b rest ih =>
      intro t h1 h2
      obtain ⟨ho, hn⟩ := receiveByte_spec st t b
      refine ih _ (h1.trans ?_) ?_
      · exact congrArg (fun x => x.withNtc s.ntc) ho.sameButLinks
      · obtain hn | ⟨hn, hn'⟩ := hn
        · rwa [hn]
        · refine .inr ?_
          obtain h2 | ⟨h2, h2'⟩ := h2
          · exact ⟨by rw [hn, h2], fun other h => by rw [hn' other h, h2]⟩
          · refine ⟨?_, fun other h => by rw [hn' other h, h2' other h]⟩
            rw [hn, h2]
            simp [Notices.add, BitVec.or_assoc]
  obtain ⟨h1, h2⟩ := key s (.refl s) (.inl rfl)
  generalize bytes.foldl (receiveByte st) s = t at h1 h2
  have ht : SameButLinks (s.withNtc t.ntc) t := by
    unfold SameButLinks at h1 ⊢
    rw [← h1]
    rfl
  obtain h2 | h2 := h2
  · refine ⟨s, .same i s, ?_⟩
    rwa [h2] at ht
  · exact ⟨_, .linkErrors i st s _ h2, ht⟩

/-- The state in which the owner of a row acts: for a station command, after PHU has been told of an owed link
reset. -/
def settled (i : Instr) (s : State) : State :=
  match i.station with
  | some st => settleReset st s
  | none => s

theorem settled_spec (i : Instr) (s : State) :
    (SameButLinks s (settled i s) ∨ SameButLinks (loseReservation s) (settled i s)) ∧
      ∀ x, pointer (settled i s) x = pointer s x := by
  unfold settled
  split
  · exact settleReset_spec _ s
  · exact ⟨.inl (.refl s), fun _ => rfl⟩

/-- The rows that act on link units, and on the other blocks at most by LINK_ERROR and RES_LOST. -/
inductive LinkRow : Instr → Prop
  | linkBreak (st : Station) : LinkRow (.linkBreak st)
  | pressLinkReset : LinkRow .pressLinkReset
  | frameReceived (st : Station) (bytes : List Byte) : LinkRow (.frameReceived st bytes)
  | frameGapTimeout (st : Station) : LinkRow (.frameGapTimeout st)
  | replyStart : LinkRow .replyStart
  | replySent (st : Station) : LinkRow (.replySent st)
  | frameStart (st : Station) : LinkRow (.frameStart st)
  | parityError (st : Station) : LinkRow (.parityError st)
  | breakEnd (st : Station) : LinkRow (.breakEnd st)

/-- What an owner reached in `v` makes of the state `u` after its act: EXAMINE and DEPOSIT move the pointer to the
field besides (R128, R130). -/
inductive Owned (st : Station) (v u : State) : State → Prop
  | acted : Owned st v u u
  | pointed (form : AddressForm) (f : FieldAddress) (h : resolve (pointer v st) form = some f) :
      Owned st v u (setPointer st f u)

/-- What a row whose owner is reached in `v` makes of the state `u` after its act: a command is answered, and a
link row acts on link units. -/
inductive Finish (i : Instr) (v u : State) : State → Prop
  | done (hst : i.station = none) : Finish i v u u
  | links (t : State) (hi : LinkRow i) (ht : SameButLinks u t) : Finish i v u t
  | replied (st : Station) (a : Answer) (w : State) (hst : i.station = some st) (hw : Owned st v u w) :
      Finish i v u (reply st i a w)

theorem Owned.sameButLinks {st : Station} {v u w : State} (h : Owned st v u w) : SameButLinks u w := by
  cases h with
  | acted => exact .refl u
  | pointed form f => exact .setLink ..

theorem Finish.sameButLinks {i : Instr} {v u t : State} (h : Finish i v u t) : SameButLinks u t := by
  cases h with
  | done => exact .refl u
  | links _ _ ht => exact ht
  | replied st a w _ hw => exact hw.sameButLinks.trans (.reply ..)

/-- A station command acts as its owner does where its checks pass, and else does nothing. -/
theorem command_act {α : Type} {st : Station} {code : Nat} {c : Instr} {p : Sent α}
    {owner : α → State → State × Answer} {s : State} (hst : c.station = some st)
    (h : ∀ a s', p = .items a → permitted code st = true →
      ∃ u, Act c s' u ∧ Owned st s' u (owner a s').1) :
    ∃ u, Act c (settled c s) u ∧ Finish c (settled c s) u (command st code c p owner s) := by
  have hs : settled c s = settleReset st s := by simp [settled, hst]
  rw [hs]
  have hrefused : ∀ ans, ∃ u, Act c (settleReset st s) u ∧
      Finish c (settleReset st s) u (reply st c ans (settleReset st s)) :=
    fun ans => ⟨_, .same _ _, .replied st ans _ hst .acted⟩
  unfold command serve
  split
  · rename_i hp
    cases p with
    | items a =>
      obtain ⟨u, hu, hw⟩ := h a (settleReset st s) rfl hp
      exact ⟨u, hu, .replied st _ _ hst hw⟩
    | wrongLength len => exact hrefused _
  · exact hrefused _

theorem permitted_loader {st : Station} {code : Nat} (hc : code ∈ [0x18, 0x19, 0x1A])
    (h : permitted code st = true) : st = .loader := by
  revert code
  cases st <;> decide

theorem permitted_supervisor {st : Station} {code : Nat} (hc : code ∈ [0x09, 0x0A, 0x1C, 0x1D])
    (h : permitted code st = true) : st = .supervisor := by
  revert code
  cases st <;> decide

theorem permitted_press {st : Station} {code : Nat} (hc : code ∈ [0x21, 0x22])
    (h : permitted code st = true) : st = .press := by
  revert code
  cases st <;> decide

end Sys2Proof.Machine
end

section
namespace Sys2Proof.Machine

/-! ### The owners -/

section Owners
variable {st : Station} {s : State}

theorem pstExamine_act (form : AddressForm) (s : State) :
    Owned st s s (pstExamine st form s).1 := by
  unfold pstExamine
  split
  · exact .acted
  · exact .pointed form _ ‹_›

theorem pstDeposit_act (x : DepositArgs) (s : State) :
    ∃ u, Act (.deposit st (.items x)) s u ∧ Owned st s u (pstDeposit st x s).1 := by
  unfold pstDeposit
  split
  · exact ⟨s, .same .., .acted⟩
  · rename_i a ha
    dsimp only
    split
    · exact ⟨s, .same .., .acted⟩
    · rename_i h
      exact ⟨_, .deposit st x s a ha h, .pointed x.address a ha⟩

theorem pstLoad_act (x : LoadArgs) (s : State) :
    Act (.loadRecipe st (.items x)) s (pstLoad x s).1 := by
  unfold pstLoad
  split
  · exact .same ..
  · split
    · exact .same ..
    · split
      · exact .same ..
      · exact .loadRecipe st x s ‹_› (by omega) (by simpa using ‹¬recipeInUse s x.slot = true›)

theorem trkBillet_eq (tag : Nat) (s : State) : (trkBillet tag s).1 = s := by
  unfold trkBillet
  split
  · rfl
  · split
    · rfl
    · split <;> rfl

theorem trkPushRequest_act (x : PushArgs) (s : State) :
    Act (.pushRequest st (.items x)) s (trkPushRequest x s).1 := by
  unfold trkPushRequest
  split
  · exact .same ..
  · exact .pushRequest st x s _ ‹_›

theorem trkPushDone_act (hst : st = .loader) (x : PushDoneArgs) (s : State) :
    Act (.pushDone st (.items x)) s (trkPushDone x s).1 := by
  unfold trkPushDone
  split
  · rename_i p hs hp
    split
    · exact .same ..
    · split
      · exact .pushDone st x s p hst hs hp (by simpa using ‹¬x.tag ≠ p.tag›) ‹_›
      · exact .slips _ s hs
  · exact .same ..

theorem trkPushCancel_act (tag : Nat) (s : State) :
    Act (.pushCancel st (.items tag)) s (trkPushCancel tag s).1 := by
  unfold trkPushCancel
  split
  · rename_i p hs hp
    split
    · exact .same ..
    · exact .pushCancel _ s hs
  · exact .same ..

theorem trkResync_act (hst : st = .supervisor) (d : Nat) (s : State) :
    Act (.resync st (.items d)) s (trkResync d s).1 := by
  unfold trkResync
  split
  · exact .same ..
  · exact .same ..
  · rename_i hs
    split
    · exact .resyncNotApplied st 0 s hst (by omega) hs
    · dsimp only
      unfold resyncApplied
      split
      · exact .resyncApplied st s _ hst hs ‹_›
      · exact .resyncNotApplied st 1 s hst le_rfl hs
    · exact .same ..

theorem phuReserve_act (i : Instr) (s : State) : Act i s (phuReserve s).1 := by
  unfold phuReserve
  split
  · exact .same ..
  · split
    · exact .reserve i s _ ‹_› ‹_›
    · exact .same ..

theorem phuTake_act (hst : st = .press) (tag : Nat) (s : State) :
    Act (.take st (.items tag)) s (phuTake tag s).1 := by
  unfold phuTake
  split
  · exact .same ..
  · rename_i g h
    unfold takeable at h
    split at h
    · rename_i hr
      obtain ⟨hg, ht⟩ := Option.filter_eq_some_iff.1 h
      refine .take st tag s g hst hr.1 ?_ hg (by simpa using ht)
      cases hp : s.phu with
      | none => simp [hp] at hr
      | some r => simpa [hp] using hr.2
    · cases h

theorem phuDiscard_act (hst : st = .press) (tag : Nat) (s : State) :
    Act (.discard st (.items tag)) s (phuDiscard tag s).1 := by
  unfold phuDiscard
  split
  · exact .same ..
  · rename_i g hg
    split
    · exact .same ..
    · exact .discard st tag s g hst hg (by simpa using ‹¬g.billet.tag ≠ tag›)

theorem dspRun_act (i : Instr) (s : State) : Act i s (dspRun s).1 := by
  unfold dspRun
  split
  · exact .same ..
  · split
    · exact .same ..
    · exact .run i s ‹_› ‹_›

theorem dspStop_act (i : Instr) (s : State) : Act i s (dspStop s).1 := by
  unfold dspStop
  split
  · exact .same ..
  · exact .stop i s

theorem ilcRestore_act (i : Instr) (n : Nat) (s : State) : Act i s (ilcRestore n s).1 := by
  unfold ilcRestore
  split
  · exact .same ..
  · exact .zoneRestore ..

theorem lotOpen_act (i : Instr) (x : LotOpenArgs) (s : State) : Act i s (Machine.lotOpen x s).1 := by
  unfold Machine.lotOpen
  split
  · exact .same ..
  · exact .lotOpen i x s ‹_›

theorem steppedLoad_le (n : Nat) (step : Int) : steppedLoad n step ≤ 9999 := by
  unfold steppedLoad
  omega

theorem lotAdjust_act (i : Instr) (step : BitVec 8) (s : State) :
    Act i s (Machine.lotAdjust step s).1 := by
  unfold Machine.lotAdjust
  split
  · exact .same ..
  · split
    · exact .same ..
    · exact .newestLoad i _ s (steppedLoad_le ..)

theorem lotAbort_act (i : Instr) (s : State) : Act i s (Machine.lotAbort s).1 := by
  unfold Machine.lotAbort
  split
  · exact .same ..
  · exact .newestLoad i 0 s (Nat.zero_le _)

theorem trkMap_eq (x : MapArgs) (s : State) : (trkMap x s).1 = s := by
  unfold trkMap
  split <;> rfl

theorem trkClassify_eq (mask : BitVec 16) (s : State) : (trkClassify mask s).1 = s := by
  unfold trkClassify
  split <;> rfl

end Owners

/-! ### The rows of the links -/

theorem receptionFault_act (i : Instr) (st : Station) (s : State) :
    ∃ u, Act i s u ∧ SameButLinks u (receptionFault st s) := by
  unfold receptionFault
  split
  · exact ⟨_, .linkErrors i st s _ (raiseLinkError_spec st s).1, rfl⟩
  · exact ⟨s, .same .., .refl s⟩

theorem linkReset_act (i : Instr) (st : Station) (s : State) :
    ∃ u, Act i s u ∧ SameButLinks u (linkReset st s) := by
  unfold linkReset
  split
  · exact ⟨s, .same .., .refl s⟩
  · dsimp only
    split
    · split
      · exact ⟨_, .loses i s,
          ((SameButLinks.setLink ..).trans (.setLink ..)).loseReservation.trans (tellReset_spec _).1⟩
      · exact ⟨s, .same .., (SameButLinks.setLink ..).trans (.setLink ..)⟩
    · exact ⟨s, .same .., .setLink ..⟩

theorem pressReset_act (i : Instr) (s : State) :
    ∃ u, Act i s u ∧ SameButLinks u (pressReset s) := by
  unfold pressReset
  split
  · exact ⟨s, .same .., .setLink ..⟩
  · exact ⟨_, .loses i s, (tellReset_spec s).1⟩

theorem startReply_sameButLinks (s : State) : SameButLinks s (startReply s) := by
  unfold startReply
  dsimp only
  split
  · split
    · exact .refl s
    · exact .setLink ..
  · exact .refl s
  · exact .refl s

theorem finishReply_sameButLinks (st : Station) (s : State) : SameButLinks s (finishReply st s) := by
  unfold finishReply
  dsimp only
  split
  · exact (SameButLinks.setLink ..).trans (.setLink ..)
  · exact .refl s
  · exact .refl s

/-! ### The timers -/

theorem pushTimerExpires_act (i : Instr) (s : State) : Act i s (pushTimerExpires s) := by
  unfold pushTimerExpires
  split
  · exact .same ..
  · split
    · exact .slips i s ‹_›
    · exact .pushTimerStops i s ‹_›

theorem dispatchTimerExpires_act (i : Instr) (s : State) : Act i s (dispatchTimerExpires s) := by
  unfold dispatchTimerExpires
  split
  · exact .dispatchExpiry i s
  · exact .same ..

theorem permitBecomesAbsent_act (s : State) : Act .permitLost s (permitBecomesAbsent s) := by
  unfold permitBecomesAbsent
  split
  · exact .permitLost s ‹_›
  · exact .same ..

theorem lapseExpires_act (i : Instr) (s : State) : Act i s (lapseExpires s) := by
  unfold lapseExpires
  split
  · exact .loses i s
  · exact .same ..

/-! ### Every row -/

/-- A row that acts on the blocks alone. -/
theorem act_of_next {i : Instr} {s t u : State} (hst : i.station = none) (he : exec i s = .next u)
    (h : exec i s = .next t) (ha : Act i s u) :
    ∃ u, Act i (settled i s) u ∧ Finish i (settled i s) u t := by
  rw [he] at h
  cases h
  exact ⟨_, by simpa [settled, hst] using ha, .done hst⟩

/-- A row that acts on link units besides. -/
theorem act_of_links {i : Instr} {s t v : State} (hi : LinkRow i) (he : exec i s = .next v)
    (h : exec i s = .next t) (ha : ∃ u, Act i s u ∧ SameButLinks u v) :
    ∃ u, Act i (settled i s) u ∧ Finish i (settled i s) u t := by
  have hst : i.station = none := by cases hi <;> rfl
  rw [he] at h
  cases h
  obtain ⟨u, hu, hl⟩ := ha
  exact ⟨u, by simpa [settled, hst] using hu, .links _ hi hl⟩

/-- A station command whose owner acts on the blocks alone. -/
theorem act_of_command {α : Type} {st : Station} {code : Nat} {i : Instr} {p : Sent α}
    {owner : α → State → State × Answer} {s t : State} (hst : i.station = some st)
    (he : exec i s = .next (command st code i p owner s)) (h : exec i s = .next t)
    (ho : ∀ a s', p = .items a → permitted code st = true → Act i s' (owner a s').1) :
    ∃ u, Act i (settled i s) u ∧ Finish i (settled i s) u t := by
  rw [he] at h
  cases h
  exact command_act hst fun a s' hp hc => ⟨_, ho a s' hp hc, .acted⟩

/-- Every row but power-on reset acts as `Act` says from the state in which its owner is reached, and besides
on link units alone. -/
theorem exec_finish {i : Instr} {s t : State} (h : exec i s = .next t)
    (hi : ∀ straps, i ≠ .powerOnReset straps) :
    ∃ u, Act i (settled i s) u ∧ Finish i (settled i s) u t := by
  cases i with
  | powerOnReset straps => exact absurd rfl (hi straps)
  | linkBreak st => exact act_of_links (.linkBreak st) rfl h (linkReset_act _ st s)
  | pressLinkReset => exact act_of_links .pressLinkReset rfl h (pressReset_act _ s)
  | frameReceived st bytes =>
    exact act_of_links (.frameReceived st bytes) rfl h (receiveBytes_act _ st bytes s)
  | frameGapTimeout st => exact act_of_links (.frameGapTimeout st) rfl h (receptionFault_act _ st s)
  | unknownCommand st cmd =>
    cases h
    exact ⟨_, .same .., .replied st _ _ rfl .acted⟩
  | replyStart => exact act_of_links .replyStart rfl h ⟨s, .same .., startReply_sameButLinks s⟩
  | replySent st =>
    exact act_of_links (.replySent st) rfl h ⟨s, .same .., finishReply_sameButLinks st s⟩
  | noticeRead st p =>
    exact act_of_command rfl rfl h fun a s' hp _ => by subst hp; exact .noticeRead st s'
  | noticeClear st p =>
    exact act_of_command rfl rfl h fun a s' hp _ => by subst hp; exact .noticeClear st a s'
  | noticeMask st p =>
    exact act_of_command rfl rfl h fun a s' hp _ => by subst hp; exact .noticeMask st a s'
  | examine st p =>
    cases h
    exact command_act rfl fun a s' _ _ => ⟨s', .same .., pstExamine_act a s'⟩
  | deposit st p =>
    cases h
    exact command_act rfl fun a s' hp _ => by subst hp; exact pstDeposit_act a s'
  | loadRecipe st p =>
    exact act_of_command rfl rfl h fun a s' hp _ => by subst hp; exact pstLoad_act a s'
  | map st p => exact act_of_command rfl rfl h fun a s' _ _ => by rw [trkMap_eq]; exact .same ..
  | billet st p => exact act_of_command rfl rfl h fun a s' _ _ => by rw [trkBillet_eq]; exact .same ..
  | classify st p => exact act_of_command rfl rfl h fun a s' _ _ => by rw [trkClassify_eq]; exact .same ..
  | pushRequest st p =>
    exact act_of_command rfl rfl h fun a s' hp _ => by subst hp; exact trkPushRequest_act a s'
  | pushDone st p =>
    exact act_of_command rfl rfl h fun a s' hp hc => by
      subst hp; exact trkPushDone_act (permitted_loader (by simp) hc) a s'
  | pushCancel st p =>
    exact act_of_command rfl rfl h fun a s' hp _ => by subst hp; exact trkPushCancel_act a s'
  | pushTimerExpiry => exact act_of_next rfl rfl h (pushTimerExpires_act _ s)
  | resync st p =>
    exact act_of_command rfl rfl h fun a s' hp hc => by
      subst hp; exact trkResync_act (permitted_supervisor (by simp) hc) a s'
  | purge st p =>
    exact act_of_command rfl rfl h fun a s' hp hc => by
      subst hp; exact .purge st s' (permitted_supervisor (by simp) hc)
  | reserve st p => exact act_of_command rfl rfl h fun a s' _ _ => phuReserve_act _ s'
  | take st p =>
    exact act_of_command rfl rfl h fun a s' hp hc => by
      subst hp; exact phuTake_act (permitted_press (by simp) hc) a s'
  | discard st p =>
    exact act_of_command rfl rfl h fun a s' hp hc => by
      subst hp; exact phuDiscard_act (permitted_press (by simp) hc) a s'
  | cadence st p => exact act_of_command rfl rfl h fun a s' _ _ => .cadence _ a s'
  | run st p => exact act_of_command rfl rfl h fun a s' _ _ => dspRun_act _ s'
  | stop st p => exact act_of_command rfl rfl h fun a s' _ _ => dspStop_act _ s'
  | zoneRestore st p => exact act_of_command rfl rfl h fun a s' _ _ => ilcRestore_act _ a s'
  | dispatchStatus st p => exact act_of_command rfl rfl h fun a s' _ _ => .same ..
  | lotOpen st p => exact act_of_command rfl rfl h fun a s' _ _ => lotOpen_act _ a s'
  | lotAdjust st p => exact act_of_command rfl rfl h fun a s' _ _ => lotAdjust_act _ a s'
  | lotAbort st p => exact act_of_command rfl rfl h fun a s' _ _ => lotAbort_act _ s'
  | lotStatus st p => exact act_of_command rfl rfl h fun a s' _ _ => .same ..
  | permitLost => exact act_of_next rfl rfl h (permitBecomesAbsent_act s)
  | permitPresent => exact act_of_next rfl rfl h (.permitPresent s)
  | dispatchTimerExpiry => exact act_of_next rfl rfl h (dispatchTimerExpires_act _ s)
  | inverterReply r => exact act_of_next rfl rfl h (.inverterReply _ r s)
  | replyWindowClose => exact act_of_next rfl rfl h (.windowCloses _ s)
  | roundRecord r => exact act_of_next rfl rfl h (.round _ r s)
  | pyrometerSample src bytes => exact act_of_next rfl rfl h (.samples _ src bytes s)
  | pyroByteTimeout src => exact act_of_next rfl rfl h (.hunts _ src s)
  | measurementCorrection c => exact act_of_next rfl rfl h (.correction _ c s)
  | settleTimerExpiry => exact act_of_next rfl rfl h (.settles _ s)
  | waitTimerExpiry => exact act_of_next rfl rfl h (.waits _ s)
  | lapseTimerExpiry => exact act_of_next rfl rfl h (lapseExpires_act _ s)
  | frameStart st => exact act_of_links (.frameStart st) rfl h (receiveBytes_act _ st [0xA5] s)
  | parityError st => exact act_of_links (.parityError st) rfl h (receptionFault_act _ st s)
  | breakEnd st => exact act_of_links (.breakEnd st) rfl h ⟨s, .same .., .setLink ..⟩
  | sampleFrameStart src => exact act_of_next rfl rfl h (.samples _ src [0xC3] s)
  | droppedFrame src => exact act_of_next rfl rfl h (.hunts _ src s)

theorem exec_act {i : Instr} {s t : State} (h : exec i s = .next t)
    (hi : ∀ straps, i ≠ .powerOnReset straps) : ∃ u, Act i (settled i s) u ∧ SameButLinks u t := by
  obtain ⟨u, ha, hf⟩ := exec_finish h hi
  exact ⟨u, ha, hf.sameButLinks⟩

/-! ### Every step -/

/-- A relation that the reset value meets, and that each act, the telling of a link reset and a change of the
link units keep, is kept by every row. -/
theorem exec_keeps {P : State → Prop} (hreset : ∀ straps s, P (powerOn straps s))
    (hlinks : ∀ s l, P s → P (s.withLinks l)) (hact : ∀ i s u, Act i s u → P s → P u)
    {i : Instr} {s t : State} (h : exec i s = .next t) (hs : P s) : P t := by
  by_cases hi : ∃ straps, i = .powerOnReset straps
  · obtain ⟨straps, rfl⟩ := hi
    cases h
    exact hreset straps s
  · obtain ⟨u, ha, hu⟩ := exec_act h fun straps hp => hi ⟨straps, hp⟩
    refine hu.keeps hlinks (hact _ _ _ ha ?_)
    obtain hsame | hloses := (settled_spec i s).1
    · exact hsame.keeps hlinks hs
    · exact hloses.keeps hlinks (hact i _ _ (.loses i s) hs)

/-- A step is a millisecond, or a row on the state with some queue. -/
theorem step_cases {s t : State} (h : step s = .next t) :
    t = tick s ∨ ∃ i q, exec i (s.withPending q) = .next t := by
  unfold step at h
  split at h
  · unfold idleStep at h
    split at h
    · exact .inr ⟨_, s.pending, h⟩
    · cases h
      exact .inl rfl
  · exact .inr ⟨_, _, h⟩

/-- A relation that does not read the time bases or the queue, and that every row keeps, is kept by every
step. -/
theorem step_keeps {P : State → Prop} (hclock : ∀ s ms secs, P s → P (s.withClock ms secs))
    (hqueue : ∀ s q, P s → P (s.withPending q)) (hexec : ∀ i s t, exec i s = .next t → P s → P t)
    {s t : State} (h : step s = .next t) (hs : P s) : P t := by
  obtain rfl | ⟨i, q, hi⟩ := step_cases h
  · exact hclock s _ _ hs
  · exact hexec i _ _ hi (hqueue s q hs)

end Sys2Proof.Machine
end

section
/-! PROOFS. Frames: which blocks the operations of the inverter link, the dispatcher, the lots and the exit
verdict leave as they are. -/

namespace Sys2Proof.Machine

/-! ### Notices, marks and lots -/

theorem raiseIf_eq (b : Bool) (k : Notice) (s : State) : ∃ n, raiseIf b k s = s.withNtc n := by
  cases b
  · exact ⟨s.ntc, by simp [raiseIf]⟩
  · exact ⟨_, by simp only [raiseIf, raise]; rfl⟩

theorem loseReservation_eq (s : State) : ∃ n, loseReservation s = (s.withPhu none).withNtc n := by
  unfold loseReservation
  split
  · exact ⟨_, rfl⟩
  · rename_i h
    refine ⟨s.ntc, ?_⟩
    rw [← h]
    simp

/-- The front that has left READY loses the reservation that names it. -/
theorem frontLeftReady_eq (tag : Nat) (s : State) :
    ∃ n, frontLeftReady tag s =
        (s.withPhu (if s.phu.map (·.tag) = some tag then none else s.phu)).withNtc n ∧
      Raises (kindIf (s.phu.map (·.tag) = some tag) .resLost) s.ntc n := by
  have hb : (s.phu.any fun r => r.tag == tag) = true ↔ s.phu.map (·.tag) = some tag := by
    cases s.phu <;> simp
  unfold frontLeftReady
  by_cases h : s.phu.map (·.tag) = some tag
  · obtain ⟨n, hn⟩ := loseReservation_eq s
    have hsome : s.phu.isSome = true := by
      cases hp : s.phu with
      | none => simp [hp] at h
      | some r => rfl
    rw [if_pos (hb.2 h), if_pos h]
    refine ⟨n, hn, ?_⟩
    have hr := (loseReservation_spec s).2.1
    rw [hn] at hr
    simpa [kindIf, h, hsome] using hr
  · rw [if_neg (mt hb.1 h), if_neg h]
    exact ⟨s.ntc, by simp, by simpa [kindIf, h] using Raises.refl s.ntc⟩

theorem closeLots_eq (s : State) :
    ∃ n, closeLots s = (s.withLot (testedLots s.trk s.lot)).withNtc n := by
  have hl := (closeLots_spec s).1
  rw [← hl]
  unfold closeLots
  split
  · exact ⟨s.ntc, by simp⟩
  · exact ⟨_, rfl⟩

/-! ### The inverter link -/

/-- Only EST's queue, ILC, the zone records and the notices may differ: what a poll, its outcome and a handed
set change. -/
structure OnlyIlc (s t : State) : Prop where
  ms : t.ms = s.ms
  secs : t.secs = s.secs
  permit : t.permit = s.permit
  unit : t.unit = s.unit
  trk : t.trk = s.trk
  dsp : t.dsp = s.dsp
  pst : t.pst = s.pst
  pya : t.pya = s.pya
  pyb : t.pyb = s.pyb
  evu : t.evu = s.evu
  phu : t.phu = s.phu
  lot : t.lot = s.lot
  links : t.links = s.links
  pending : t.pending = s.pending

theorem OnlyIlc.refl (s : State) : OnlyIlc s s :=
  ⟨rfl, rfl, rfl, rfl, rfl, rfl, rfl, rfl, rfl, rfl, rfl, rfl, rfl, rfl⟩

theorem OnlyIlc.of_updates (s : State) (est : Estimator) (ilc : Inverters) (zones : PerZone ZoneRecord)
    (ntc : PerStation Notices) :
    OnlyIlc s ((((s.withEst est).withIlc ilc).withZones zones).withNtc ntc) :=
  ⟨rfl, rfl, rfl, rfl, rfl, rfl, rfl, rfl, rfl, rfl, rfl, rfl, rfl, rfl⟩

theorem OnlyIlc.trans {s t u : State} (h : OnlyIlc s t) (h' : OnlyIlc t u) : OnlyIlc s u :=
  ⟨h'.ms.trans h.ms, h'.secs.trans h.secs, h'.permit.trans h.permit, h'.unit.trans h.unit,
    h'.trk.trans h.trk, h'.dsp.trans h.dsp, h'.pst.trans h.pst, h'.pya.trans h.pya,
    h'.pyb.trans h.pyb, h'.evu.trans h.evu, h'.phu.trans h.phu, h'.lot.trans h.lot,
    h'.links.trans h.links, h'.pending.trans h.pending⟩

/-- The four blocks put back give the state before. -/
theorem OnlyIlc.restored {s t : State} (h : OnlyIlc s t) :
    (((t.withEst s.est).withIlc s.ilc).withZones s.zones).withNtc s.ntc = s := by
  simp only [State.withEst, State.withIlc, State.withZones, State.withNtc, h.ms, h.secs, h.permit,
    h.unit, h.trk, h.dsp, h.pst, h.pya, h.pyb, h.evu, h.phu, h.lot, h.links, h.pending]

theorem withIlc_onlyIlc (s : State) (v : Inverters) : OnlyIlc s (s.withIlc v) :=
  OnlyIlc.of_updates s s.est v s.zones s.ntc

theorem raiseIf_onlyIlc (b : Bool) (k : Notice) (s : State) : OnlyIlc s (raiseIf b k s) := by
  obtain ⟨n, h⟩ := raiseIf_eq b k s
  rw [h]
  exact .of_updates s s.est s.ilc s.zones n

theorem beginRound_onlyIlc (d : DispatchSet) (s : State) : OnlyIlc s (beginRound d s) :=
  ⟨rfl, rfl, rfl, rfl, rfl, rfl, rfl, rfl, rfl, rfl, rfl, rfl, rfl, rfl⟩

theorem handSet_onlyIlc (d : DispatchSet) (s : State) : OnlyIlc s (handSet d s) := by
  unfold handSet
  split
  · exact beginRound_onlyIlc d s
  · exact withIlc_onlyIlc ..

theorem storeZone_onlyIlc (z : ZoneNo) (r : ZoneRecord) (s : State) : OnlyIlc s (storeZone z r s) :=
  (OnlyIlc.of_updates s s.est s.ilc (s.zones.set z r) s.ntc).trans (raiseIf_onlyIlc ..)

theorem missedReply_onlyIlc (z : ZoneNo) (b : Bool) (s : State) : OnlyIlc s (missedReply z b s) :=
  (withIlc_onlyIlc ..).trans (storeZone_onlyIlc ..)

theorem goodReply_onlyIlc (z : ZoneNo) (st : ChannelStatus) (r : InverterFrame) (s : State) :
    OnlyIlc s (goodReply z st r s) :=
  (withIlc_onlyIlc ..).trans ((storeZone_onlyIlc ..).trans (raiseIf_onlyIlc ..))

theorem completeRound_onlyIlc (s : State) : OnlyIlc s (completeRound s) := by
  have h := OnlyIlc.of_updates s { s.est with rounds := s.est.rounds ++ [roundRecordOf s.ilc.entries] }
    { s.ilc with round := none, waiting := none, entries := .const none } s.zones s.ntc
  unfold completeRound
  dsimp only
  split
  · exact h.trans (beginRound_onlyIlc ..)
  · exact h

theorem nextPoll_onlyIlc (rd : Round) (s : State) : OnlyIlc s (nextPoll rd s) := by
  unfold nextPoll
  split
  · exact withIlc_onlyIlc ..
  · exact completeRound_onlyIlc s

/-- A reply is stray, spoils the poll, or decides it as a miss or by its good report. -/
theorem takeReply_cases (r : InverterFrame) (s : State) :
    takeReply r s = s ∨ ∃ rd, s.ilc.round = some rd ∧
      (takeReply r s = spoilPoll rd s ∨
        takeReply r s = nextPoll rd (missedReply rd.poll.channel true s) ∨
        ∃ st, takeReply r s = nextPoll rd (goodReply rd.poll.channel st r s)) := by
  unfold takeReply
  split
  · exact .inl rfl
  · rename_i rd h
    split
    · exact .inl rfl
    · split
      · exact .inr ⟨rd, h, .inl rfl⟩
      · split
        · exact .inr ⟨rd, h, .inr (.inl rfl)⟩
        · split
          · split
            · exact .inl rfl
            · exact .inr ⟨rd, h, .inl rfl⟩
          · split
            · exact .inr ⟨rd, h, .inr (.inr ⟨_, rfl⟩)⟩
            · exact .inr ⟨rd, h, .inl rfl⟩

theorem closeWindow_cases (s : State) :
    closeWindow s = s ∨ ∃ rd, s.ilc.round = some rd ∧
      closeWindow s = nextPoll rd (missedReply rd.poll.channel rd.poll.spoiled s) := by
  unfold closeWindow
  split
  · exact .inl rfl
  · exact .inr ⟨_, ‹_›, rfl⟩

theorem takeReply_onlyIlc (r : InverterFrame) (s : State) : OnlyIlc s (takeReply r s) := by
  obtain h | ⟨rd, -, h | h | ⟨st, h⟩⟩ := takeReply_cases r s
  · rw [h]; exact .refl s
  · rw [h]; exact withIlc_onlyIlc ..
  · rw [h]; exact (missedReply_onlyIlc ..).trans (nextPoll_onlyIlc ..)
  · rw [h]; exact (goodReply_onlyIlc ..).trans (nextPoll_onlyIlc ..)

theorem closeWindow_onlyIlc (s : State) : OnlyIlc s (closeWindow s) := by
  obtain h | ⟨rd, -, h⟩ := closeWindow_cases s
  · rw [h]; exact .refl s
  · rw [h]; exact (missedReply_onlyIlc ..).trans (nextPoll_onlyIlc ..)

/-! ### Zone lengths -/

/-- Every zone keeps its length. -/
structure LengthsKept (s t : State) : Prop where
  length : ∀ z, (t.zones.get z).length = (s.zones.get z).length

theorem LengthsKept.of_eq {s t : State} (h : t.zones = s.zones) : LengthsKept s t := ⟨fun z => by rw [h]⟩

theorem LengthsKept.trans {s t u : State} (h : LengthsKept s t) (h' : LengthsKept t u) :
    LengthsKept s u := ⟨fun z => (h'.length z).trans (h.length z)⟩

theorem LengthsKept.rowLength {s t : State} (h : LengthsKept s t) : rowLength t = rowLength s := by
  unfold Machine.rowLength
  simp only [h.length]

/-- A zone record stored in the place of one of its length. -/
theorem LengthsKept.set {s t : State} (z : ZoneNo) (r : ZoneRecord) (h : t.zones = s.zones.set z r)
    (hr : r.length = (s.zones.get z).length) : LengthsKept s t := by
  refine ⟨fun y => ?_⟩
  rw [h]
  by_cases hy : y = z
  · subst hy; simpa using hr
  · simp [hy]

theorem beginRound_lengths (d : DispatchSet) (s : State) : LengthsKept s (beginRound d s) :=
  ⟨fun z => by simp [beginRound, sendPoll]⟩

theorem handSet_lengths (d : DispatchSet) (s : State) : LengthsKept s (handSet d s) := by
  unfold handSet
  split
  · exact beginRound_lengths d s
  · exact .of_eq rfl

theorem raiseIf_lengths (b : Bool) (k : Notice) (s : State) : LengthsKept s (raiseIf b k s) := by
  obtain ⟨n, h⟩ := raiseIf_eq b k s
  rw [h]
  exact .of_eq rfl

theorem storeZone_lengths {z : ZoneNo} {r : ZoneRecord} {s : State}
    (hr : r.length = (s.zones.get z).length) : LengthsKept s (storeZone z r s) :=
  .set z r (storeZone_spec z r s).1 hr

theorem missedReply_lengths (z : ZoneNo) (b : Bool) (s : State) : LengthsKept s (missedReply z b s) := by
  have h1 : LengthsKept s (s.withIlc (s.ilc.decide z .void false b)) := .of_eq rfl
  exact h1.trans (storeZone_lengths (r := (s.zones.get z).miss) rfl)

theorem goodReply_lengths (z : ZoneNo) (st : ChannelStatus) (r : InverterFrame) (s : State) :
    LengthsKept s (goodReply z st r s) := by
  have h1 : LengthsKept s (s.withIlc (s.ilc.decide z (.energy r.energy) true true)) := .of_eq rfl
  have h2 := h1.trans (storeZone_lengths (z := z) (r := (s.zones.get z).goodReply st r.meanPower) rfl)
  exact h2.trans (raiseIf_lengths ..)

theorem nextPoll_lengths (rd : Round) (s : State) : LengthsKept s (nextPoll rd s) := by
  unfold nextPoll
  split
  · exact .of_eq rfl
  · unfold completeRound
    dsimp only
    split
    · refine LengthsKept.trans ?_ (beginRound_lengths ..)
      exact .of_eq rfl
    · exact .of_eq rfl

theorem takeReply_lengths (r : InverterFrame) (s : State) : LengthsKept s (takeReply r s) := by
  obtain h | ⟨rd, -, h | h | ⟨st, h⟩⟩ := takeReply_cases r s
  · rw [h]; exact .of_eq rfl
  · rw [h]; exact .of_eq rfl
  · rw [h]; exact (missedReply_lengths ..).trans (nextPoll_lengths ..)
  · rw [h]; exact (goodReply_lengths ..).trans (nextPoll_lengths ..)

theorem closeWindow_lengths (s : State) : LengthsKept s (closeWindow s) := by
  obtain h | ⟨rd, -, h⟩ := closeWindow_cases s
  · rw [h]; exact .of_eq rfl
  · rw [h]; exact (missedReply_lengths ..).trans (nextPoll_lengths ..)

/-! ### The dispatcher -/

theorem applyCadence_eq (s : State) : ∃ d, applyCadence s = s.withDsp d := by
  unfold applyCadence
  split
  · exact ⟨s.dsp, by simp⟩
  · exact ⟨_, rfl⟩

theorem inferIdle_eq (s : State) : ∃ d, inferIdle s = s.withDsp d := by
  unfold inferIdle
  split
  · exact ⟨_, rfl⟩
  · exact ⟨s.dsp, by simp⟩

/-- The records in which an expiry of the dispatch timer leaves the track: GUARDED set by the guard in RUN, and
cleared otherwise (R59, R66). -/
theorem computeGrants_eq (s : State) :
    ∃ d, computeGrants s =
      (if s.dsp.state = .run then setGuards s else clearGuards s).withDsp d := by
  unfold computeGrants
  split
  · rename_i h
    rw [if_pos h]
    exact ⟨_, rfl⟩
  · rename_i h
    rw [if_neg (by simp [h])]
    exact ⟨_, rfl⟩
  · rename_i h
    rw [if_neg (by simp [h])]
    exact ⟨_, rfl⟩

end Sys2Proof.Machine
end

section
/-! PROOFS. Frames: the blocks that a measurement, a round record and the timers of the gate front leave as they
are. -/

namespace Sys2Proof.Machine

/-- Only the track, EST, the pyrometer inputs, EVU, the reservation and the notices may differ: what a
measurement, a round record and the timers of the gate front change. -/
structure OnlyVerdict (s t : State) : Prop where
  ms : t.ms = s.ms
  secs : t.secs = s.secs
  permit : t.permit = s.permit
  unit : t.unit = s.unit
  dsp : t.dsp = s.dsp
  ilc : t.ilc = s.ilc
  zones : t.zones = s.zones
  pst : t.pst = s.pst
  lot : t.lot = s.lot
  links : t.links = s.links
  pending : t.pending = s.pending

theorem OnlyVerdict.refl (s : State) : OnlyVerdict s s :=
  ⟨rfl, rfl, rfl, rfl, rfl, rfl, rfl, rfl, rfl, rfl, rfl⟩

theorem OnlyVerdict.trans {s t u : State} (h : OnlyVerdict s t) (h' : OnlyVerdict t u) :
    OnlyVerdict s u :=
  ⟨h'.ms.trans h.ms, h'.secs.trans h.secs, h'.permit.trans h.permit, h'.unit.trans h.unit,
    h'.dsp.trans h.dsp, h'.ilc.trans h.ilc, h'.zones.trans h.zones, h'.pst.trans h.pst,
    h'.lot.trans h.lot, h'.links.trans h.links, h'.pending.trans h.pending⟩

/-- The pyrometer inputs stay as they are too. -/
structure OnlyFront (s t : State) : Prop extends OnlyVerdict s t where
  pya : t.pya = s.pya
  pyb : t.pyb = s.pyb

theorem OnlyFront.refl (s : State) : OnlyFront s s := ⟨.refl s, rfl, rfl⟩

theorem OnlyFront.trans {s t u : State} (h : OnlyFront s t) (h' : OnlyFront t u) : OnlyFront s u :=
  ⟨h.toOnlyVerdict.trans h'.toOnlyVerdict, h'.pya.trans h.pya, h'.pyb.trans h.pyb⟩

theorem withTrk_onlyFront (s : State) (v : Track) : OnlyFront s (s.withTrk v) :=
  ⟨⟨rfl, rfl, rfl, rfl, rfl, rfl, rfl, rfl, rfl, rfl, rfl⟩, rfl, rfl⟩

theorem withEst_onlyFront (s : State) (v : Estimator) : OnlyFront s (s.withEst v) :=
  ⟨⟨rfl, rfl, rfl, rfl, rfl, rfl, rfl, rfl, rfl, rfl, rfl⟩, rfl, rfl⟩

theorem withEvu_onlyFront (s : State) (v : VerdictUnit) : OnlyFront s (s.withEvu v) :=
  ⟨⟨rfl, rfl, rfl, rfl, rfl, rfl, rfl, rfl, rfl, rfl, rfl⟩, rfl, rfl⟩

theorem raise_onlyFront (k : Notice) (s : State) : OnlyFront s (raise k s) :=
  ⟨⟨rfl, rfl, rfl, rfl, rfl, rfl, rfl, rfl, rfl, rfl, rfl⟩, rfl, rfl⟩

theorem raiseIf_onlyFront (b : Bool) (k : Notice) (s : State) : OnlyFront s (raiseIf b k s) := by
  cases b
  · exact .refl s
  · exact raise_onlyFront k s

theorem setPyro_onlyVerdict (src : Pyro) (v : PyroInput) (s : State) : OnlyVerdict s (setPyro src v s) := by
  cases src <;> exact ⟨rfl, rfl, rfl, rfl, rfl, rfl, rfl, rfl, rfl, rfl, rfl⟩

theorem frontLeftReady_onlyFront (tag : Nat) (s : State) : OnlyFront s (frontLeftReady tag s) := by
  obtain ⟨n, h, -⟩ := frontLeftReady_eq tag s
  rw [h]
  exact ⟨⟨rfl, rfl, rfl, rfl, rfl, rfl, rfl, rfl, rfl, rfl, rfl⟩, rfl, rfl⟩

theorem setGateFront_onlyFront (g : GateBillet) (s : State) : OnlyFront s (setGateFront g s) := by
  unfold setGateFront
  split
  · exact .refl s
  · exact withTrk_onlyFront ..

theorem changeVerdict_onlyFront (g : GateBillet) (v : Verdict) (s : State) :
    OnlyFront s (changeVerdict g v s) := by
  have h := (setGateFront_onlyFront { g with verdict := v } s).trans (raise_onlyFront .verdict _)
  unfold changeVerdict
  dsimp only
  split
  · exact h.trans (frontLeftReady_onlyFront ..)
  · exact h

theorem reevaluate_onlyFront (s : State) : OnlyFront s (reevaluate s) := by
  unfold reevaluate
  split
  · exact .refl s
  · split
    · split
      · exact .refl s
      · exact changeVerdict_onlyFront ..
    · exact .refl s

theorem noteExit_onlyFront (m : Option Nat) (s : State) : OnlyFront s (noteExit m s) := by
  cases m
  · exact .refl s
  · exact withEvu_onlyFront ..

theorem correctFront_onlyFront (m : Option Nat) (s : State) : OnlyFront s (correctFront m s) := by
  unfold correctFront
  split
  · exact .refl s
  · exact setGateFront_onlyFront ..

theorem decideFirst_onlyFront (s : State) : OnlyFront s (decideFirst s) := by
  unfold decideFirst
  split
  · exact .refl s
  · exact ((setGateFront_onlyFront ..).trans (withEvu_onlyFront ..)).trans (raise_onlyFront ..)

theorem afterExit_onlyFront (m : Option Nat) (s : State) : OnlyFront s (afterExit m s) := by
  unfold afterExit
  split
  · exact .refl s
  · exact .refl s
  · exact (noteExit_onlyFront m s).trans (decideFirst_onlyFront _)
  · split
    · exact (noteExit_onlyFront m s).trans (reevaluate_onlyFront _)
    · exact .refl s

theorem exitSample_onlyFront (m : Option Nat) (s : State) : OnlyFront s (exitSample m s) := by
  unfold exitSample
  split
  · exact .refl s
  · exact .refl s
  · exact (correctFront_onlyFront m s).trans (afterExit_onlyFront m _)
  · exact (correctFront_onlyFront m s).trans (afterExit_onlyFront m _)

theorem rowSample_onlyFront (m : Option Nat) (s : State) : OnlyFront s (rowSample m s) := by
  unfold rowSample
  split
  · exact .refl s
  · exact .refl s
  · exact withEst_onlyFront ..

theorem takeSample_onlyVerdict (src : Pyro) (value : Nat) (s : State) :
    OnlyVerdict s (takeSample src value s) := by
  unfold takeSample
  dsimp only
  split
  · exact (setPyro_onlyVerdict ..).trans (rowSample_onlyFront ..).toOnlyVerdict
  · exact (setPyro_onlyVerdict ..).trans (exitSample_onlyFront ..).toOnlyVerdict

theorem receiveSampleByte_onlyVerdict (src : Pyro) (s : State) (b : Byte) :
    OnlyVerdict s (receiveSampleByte src s b) := by
  rw [receiveSampleByte_spec]
  split
  · exact .refl s
  · split
    · exact setPyro_onlyVerdict ..
    · split
      · exact takeSample_onlyVerdict ..
      · exact setPyro_onlyVerdict ..

theorem receiveSample_onlyVerdict (src : Pyro) (bytes : List Byte) (s : State) :
    OnlyVerdict s (receiveSample src bytes s) := by
  unfold receiveSample
  induction bytes generalizing s with
  | nil => exact .refl s
  | cons b rest ih => exact (receiveSampleByte_onlyVerdict src s b).trans (ih _)

theorem updateRecords_onlyFront (r : RoundRecord) (s : State) : OnlyFront s (updateRecords r s) :=
  ((withTrk_onlyFront s _).trans (withEst_onlyFront ..)).trans
    (((raiseIf_onlyFront ..).trans (raiseIf_onlyFront ..)).trans (raiseIf_onlyFront ..))

theorem takeRound_onlyFront (r : RoundRecord) (s : State) : OnlyFront s (takeRound r s) :=
  (updateRecords_onlyFront r s).trans (reevaluate_onlyFront _)

theorem applyCorrection_onlyFront (c : Correction) (s : State) :
    OnlyFront s (applyCorrection c s) :=
  (withEst_onlyFront s _).trans (withTrk_onlyFront ..)

theorem takeCorrection_onlyFront (c : Correction) (s : State) : OnlyFront s (takeCorrection c s) := by
  have h := applyCorrection_onlyFront c s
  unfold takeCorrection
  dsimp only
  split
  · exact h
  · split
    · exact h.trans (afterExit_onlyFront ..)
    · exact h

theorem settleExpires_onlyFront (s : State) : OnlyFront s (settleExpires s) := by
  unfold settleExpires
  split
  · exact .refl s
  · split <;> exact withEvu_onlyFront ..

theorem waitExpires_onlyFront (s : State) : OnlyFront s (waitExpires s) := by
  unfold waitExpires
  split
  · exact .refl s
  · split
    · exact (withEvu_onlyFront ..).trans (decideFirst_onlyFront _)
    · exact .refl s
    · exact withEvu_onlyFront ..
    · exact withEvu_onlyFront ..

/-! ### Pushes and the removal at the gate -/

theorem applyPush_zones (p : PendingPush) (est : EstimateState) (s : State) :
    (applyPush p est s).zones = s.zones := by
  simpa using congrArg State.zones (applyPush_spec p est s).2

theorem handOver_zones {s : State} {g : GateBillet} {rest : List GateBillet} (count : Lot → Lot)
    (h : s.trk.gate = g :: rest) : (handOver count g.billet s).zones = s.zones := by
  obtain ⟨-, -, -, -, -, hs⟩ := handOver_spec count g rest s h
  simpa using congrArg State.zones hs

theorem enterUncertain_zones (s : State) : (enterUncertain s).zones = s.zones := by
  obtain ⟨-, -, -, hs⟩ := enterUncertain_spec s
  simpa using congrArg State.zones hs

theorem dropPush_zones (s : State) : (dropPush s).zones = s.zones := by
  obtain ⟨-, -, -, hs⟩ := dropPush_spec s
  simpa using congrArg State.zones hs

end Sys2Proof.Machine
end

section
/-! PROOFS. The operations that end with a notice, written as updates of blocks together with what they raise; and
PURGE, block by block (R25). -/

namespace Sys2Proof.Machine

/-! ### Updates with what they raise -/

theorem raiseIf_raises (b : Bool) (k : Notice) (s : State) :
    ∃ n, raiseIf b k s = s.withNtc n ∧ Raises (kindIf (b = true) k) s.ntc n := by
  obtain ⟨n, h⟩ := raiseIf_eq b k s
  have hr := (raiseIf_spec b k s).1
  rw [h] at hr
  exact ⟨n, h, hr⟩

theorem loseReservation_raises (s : State) :
    ∃ n, loseReservation s = (s.withPhu none).withNtc n ∧
      Raises (kindIf (s.phu.isSome = true) .resLost) s.ntc n := by
  obtain ⟨n, h⟩ := loseReservation_eq s
  have hr := (loseReservation_spec s).2.1
  rw [h] at hr
  exact ⟨n, h, hr⟩

theorem closeLots_raises (s : State) :
    ∃ n, closeLots s = (s.withLot (testedLots s.trk s.lot)).withNtc n ∧
      Raises (kindIf (endedLots s.trk s.lot.queue ≠ []) .lotClosed) s.ntc n := by
  obtain ⟨n, h⟩ := closeLots_eq s
  have hr := (closeLots_spec s).2.1
  rw [h] at hr
  exact ⟨n, h, hr⟩

theorem reportFront_of_empty {s : State} (h : s.trk.gate = []) : reportFront s = s.withEvu emptyGate := by
  unfold reportFront
  rw [h]
  rfl

/-! ### PURGE (R25) -/

/-- The lots after some removed records have been counted as lost, each in its own lot and no spacer (R141). -/
def lostLots (bs : List Billet) (x : Lots) : Lots :=
  { x with
    queue := x.queue.map fun l =>
      { l with lost := l.lost + bs.countP fun b => decide (b.recipe ≠ 0 ∧ b.lot = l.number) } }

theorem lostLots_nil (x : Lots) : lostLots [] x = x := by simp [lostLots]

theorem countRemoved_lose (b : Billet) (s : State) :
    countRemoved Lot.lose b s = s.withLot (lostLots [b] s.lot) := by
  unfold countRemoved
  split
  · rename_i h
    have hs : lostLots [b] s.lot = s.lot := by simp [lostLots, h]
    rw [hs, State.withLot_self]
  · rename_i h
    unfold updateLot lostLots
    refine congrArg (fun q => s.withLot { s.lot with queue := q }) ?_
    refine List.map_congr_left fun l _ => ?_
    by_cases hl : l.number = b.lot
    · simp [Lot.lose, h, hl]
    · simp [hl, Ne.symm hl]

theorem lostLots_cons (b : Billet) (bs : List Billet) (x : Lots) :
    lostLots bs (lostLots [b] x) = lostLots (b :: bs) x := by
  unfold lostLots
  simp only [List.map_map]
  congr 1
  refine List.map_congr_left fun l _ => ?_
  simp only [Function.comp_apply, List.countP_cons, List.countP_nil]
  congr 1
  omega

theorem countLost_spec (bs : List Billet) (s : State) :
    countLost bs s = s.withLot (lostLots bs s.lot) := by
  unfold countLost
  induction bs generalizing s with
  | nil => rw [lostLots_nil]; rfl
  | cons b rest ih =>
    rw [List.foldl_cons, countRemoved_lose, ih, State.withLot_lot, lostLots_cons, State.withLot_withLot]

/-- With an empty track the lots that end are those with none to load. -/
theorem lotEnds_empty (generation : Nat) (l : Lot) :
    LotEnds
        { row := [], gate := [], push := none, state := .idle, timer := none, generation := generation } l ↔
      l.toLoad = 0 := by
  simp [LotEnds]

/-- The state after PURGE, block by block. -/
structure Purged (s u : State) : Prop where
  trk : u.trk =
    { row := [], gate := [], push := none, state := .idle, timer := none
      generation := nextGeneration s.trk.generation }
  evu : u.evu = emptyGate
  phu : u.phu = none
  dsp : u.dsp = if s.trk.state = .uncertain then leftUncertain s else s.dsp
  lot : u.lot = testedLots u.trk (lostLots (s.trk.row ++ s.trk.gate.map (·.billet)) s.lot)
  raises : Raises
    (kindIf (endedLots u.trk (lostLots (s.trk.row ++ s.trk.gate.map (·.billet)) s.lot).queue ≠ []) .lotClosed
      ||| kindIf (s.phu.isSome = true) .resLost ||| kindIf ((!s.trk.gate.isEmpty) = true) .gateSpace)
    s.ntc u.ntc
  rest : (((((u.withTrk s.trk).withEvu s.evu).withPhu s.phu).withDsp s.dsp).withLot s.lot).withNtc s.ntc = s

theorem purgeTrack_spec (s : State) : Purged s (purgeTrack s) := by
  unfold purgeTrack
  extract_lets removed s1 s2 s3
  have hc : countLost removed s1 = s1.withLot (lostLots removed s.lot) := countLost_spec removed s1
  obtain ⟨n1, h1, r1⟩ := closeLots_raises (s1.withLot (lostLots removed s.lot))
  obtain ⟨n2, h2, r2⟩ := loseReservation_raises
    (((s1.withLot (lostLots removed s.lot)).withLot
      (testedLots s1.trk (lostLots removed s.lot))).withNtc n1)
  have hs2 : s2 = (((s1.withLot (testedLots s1.trk (lostLots removed s.lot))).withPhu none).withNtc
      n2).withEvu emptyGate := by
    show reportFront _ = _
    rw [hc, h1]
    exact (congrArg reportFront h2).trans (reportFront_of_empty rfl)
  obtain ⟨n3, h3, r3⟩ := raiseIf_raises (!s.trk.gate.isEmpty) .gateSpace s2
  have hs3 : s3 = s2.withNtc n3 := h3
  have hraises := (r1.trans r2).trans (hs2 ▸ r3)
  split
  · rename_i hu
    rw [dispatcherUnblocks_spec, hs3, hs2]
    refine ⟨rfl, rfl, rfl, ?_, rfl, hraises, ?_⟩
    · rw [if_pos hu]
      rfl
    · simp only [s1, State.withTrk, State.withEvu, State.withPhu, State.withDsp, State.withLot,
        State.withNtc]
  · rename_i hu
    rw [hs3, hs2]
    refine ⟨rfl, rfl, rfl, ?_, rfl, hraises, ?_⟩
    · rw [if_neg hu]
      rfl
    · simp only [s1, State.withTrk, State.withEvu, State.withPhu, State.withDsp, State.withLot,
        State.withNtc]

end Sys2Proof.Machine
end

section
/-! PROOFS. Records that stay in their places: the estimate, the corrections, the guard and the verdicts change
values of the records, and leave what identifies a record, its length and its trailing face, the track state,
the pending push and the generation as they are (R3, R41, R45). -/

namespace Sys2Proof.Machine

/-- What a record keeps while it is in the track: what identifies it, its doubt and its sticky marks; and its
temperatures and energy stay in their ranges (R2, R3, R41, R45). -/
structure Billet.Kept (b c : Billet) : Prop where
  tag : c.tag = b.tag
  recipe : c.recipe = b.recipe
  lot : c.lot = b.lot
  length : c.length = b.length
  entryTemp : c.entryTemp = b.entryTemp
  entryTime : c.entryTime = b.entryTime
  ts : b.ts ≤ 16000 → c.ts ≤ 16000
  tc : b.tc ≤ 16000 → c.tc ≤ 16000
  energy : b.energy ≤ 4294967295 → b.energy ≤ c.energy ∧ c.energy ≤ 4294967295
  untracked : b.estimate = .untracked → c.estimate = .untracked
  overheated : b.marks.overheated = true → c.marks.overheated = true
  overdwell : b.marks.overdwell = true → c.marks.overdwell = true

theorem Billet.Kept.refl (b : Billet) : b.Kept b :=
  ⟨rfl, rfl, rfl, rfl, rfl, rfl, id, id, fun h => ⟨le_rfl, h⟩, id, id, id⟩

theorem Billet.Kept.trans {b c d : Billet} (h : b.Kept c) (h' : c.Kept d) : b.Kept d where
  tag := h'.tag.trans h.tag
  recipe := h'.recipe.trans h.recipe
  lot := h'.lot.trans h.lot
  length := h'.length.trans h.length
  entryTemp := h'.entryTemp.trans h.entryTemp
  entryTime := h'.entryTime.trans h.entryTime
  ts := h'.ts ∘ h.ts
  tc := h'.tc ∘ h.tc
  energy hb :=
    have ⟨h1, h2⟩ := h.energy hb
    have ⟨h3, h4⟩ := h'.energy h2
    ⟨h1.trans h3, h4⟩
  untracked := h'.untracked ∘ h.untracked
  overheated := h'.overheated ∘ h.overheated
  overdwell := h'.overdwell ∘ h.overdwell

/-- A record that is kept where it stands. -/
structure Billet.InPlace (b c : Billet) : Prop extends b.Kept c where
  trailing : c.trailing = b.trailing

theorem Billet.InPlace.refl (b : Billet) : b.InPlace b := ⟨.refl b, rfl⟩

theorem Billet.InPlace.trans {b c d : Billet} (h : b.InPlace c) (h' : c.InPlace d) : b.InPlace d :=
  ⟨h.toKept.trans h'.toKept, h'.trailing.trans h.trailing⟩

/-- Every record of the row and the gate is kept where it stands, and so is the rest of the track. -/
structure Track.InPlace (t u : Track) : Prop where
  row : List.Forall₂ Billet.InPlace t.row u.row
  gate : List.Forall₂ (fun g h => g.billet.InPlace h.billet) t.gate u.gate
  push : u.push = t.push
  state : u.state = t.state
  timer : u.timer = t.timer
  generation : u.generation = t.generation

theorem Track.InPlace.refl (t : Track) : t.InPlace t :=
  ⟨List.forall₂_same.2 fun _ _ => .refl _, List.forall₂_same.2 fun _ _ => .refl _, rfl, rfl, rfl, rfl⟩

theorem Track.InPlace.of_eq {t u : Track} (h : u = t) : t.InPlace u := by
  subst h
  exact .refl u

theorem forall₂_trans {α : Type} {R : α → α → Prop} (hR : ∀ a b c, R a b → R b c → R a c)
    {l m n : List α} (h : List.Forall₂ R l m) (h' : List.Forall₂ R m n) : List.Forall₂ R l n := by
  induction h generalizing n with
  | nil => exact h'
  | cons hab _ ih =>
    cases h' with
    | cons hbc h' => exact .cons (hR _ _ _ hab hbc) (ih h')

theorem Track.InPlace.trans {t u v : Track} (h : t.InPlace u) (h' : u.InPlace v) : t.InPlace v :=
  ⟨forall₂_trans (fun _ _ _ => .trans) h.row h'.row,
    forall₂_trans (R := fun g k : GateBillet => g.billet.InPlace k.billet) (fun _ _ _ => .trans) h.gate
      h'.gate,
    h'.push.trans h.push, h'.state.trans h.state, h'.timer.trans h.timer,
    h'.generation.trans h.generation⟩

theorem forall₂_map_right {α : Type} {R : α → α → Prop} {f : α → α} (h : ∀ a, R a (f a)) (l : List α) :
    List.Forall₂ R l (l.map f) := by
  rw [List.forall₂_map_right_iff, List.forall₂_same]
  exact fun a _ => h a

/-- Records changed one by one, each kept in its place. -/
theorem Track.InPlace.of_maps (t : Track) {f : Billet → Billet} {k : GateBillet → GateBillet}
    (hf : ∀ b, Billet.InPlace b (f b)) (hk : ∀ g, Billet.InPlace g.billet (k g).billet) :
    t.InPlace { t with row := t.row.map f, gate := t.gate.map k } :=
  ⟨forall₂_map_right hf _,
    forall₂_map_right (R := fun g h : GateBillet => g.billet.InPlace h.billet) hk _, rfl, rfl, rfl, rfl⟩

/-! ### The changes of one record -/

theorem Billet.inPlace_guarded (b : Billet) (v : Bool) :
    b.InPlace { b with marks := { b.marks with guarded := v } } :=
  ⟨⟨rfl, rfl, rfl, rfl, rfl, rfl, id, id, fun h => ⟨le_rfl, h⟩, id, id, id⟩, rfl⟩

theorem Billet.inPlace_untracked (b : Billet) : b.InPlace { b with estimate := .untracked } :=
  ⟨⟨rfl, rfl, rfl, rfl, rfl, rfl, id, id, fun h => ⟨le_rfl, h⟩, fun _ => rfl, id, id⟩, rfl⟩

theorem saturateTemp_le (t : Int) : saturateTemp t ≤ 16000 := by
  unfold saturateTemp
  omega

theorem updateBillet_inPlace (s : State) (dt eb : Nat) (b : Billet) :
    b.InPlace (updateBillet s dt eb b) where
  tag := rfl
  recipe := rfl
  lot := rfl
  length := rfl
  entryTemp := rfl
  entryTime := rfl
  ts _ := saturateTemp_le _
  tc _ := saturateTemp_le _
  energy h := by
    show b.energy ≤ min 4294967295 (b.energy + eb) ∧ min 4294967295 (b.energy + eb) ≤ 4294967295
    omega
  untracked := id
  overheated h := by simp [updateBillet, testMarks, h]
  overdwell h := by simp [updateBillet, testMarks, h]
  trailing := rfl

theorem updateRowBillet_inPlace (s : State) (r : RoundRecord) (dt : Nat) (b : Billet) :
    b.InPlace (updateRowBillet s r dt b) := by
  unfold updateRowBillet
  split
  · exact b.inPlace_untracked.trans (updateBillet_inPlace ..)
  · exact updateBillet_inPlace ..

theorem correctBillet_inPlace (s : State) (src : Pyro) (m : Option Nat) (b : Billet) :
    b.InPlace (correctBillet s src m b) where
  tag := rfl
  recipe := rfl
  lot := rfl
  length := rfl
  entryTemp := rfl
  entryTime := rfl
  ts h := by
    cases m with
    | none => exact h
    | some m => exact saturateTemp_le _
  tc := id
  energy h := ⟨le_rfl, h⟩
  untracked := id
  overheated := id
  overdwell := id
  trailing := rfl

/-! ### The changes of the track -/

theorem setGuards_inPlace (s : State) : s.trk.InPlace (setGuards s).trk :=
  .of_maps s.trk (fun b => b.inPlace_guarded _) fun g => g.billet.inPlace_guarded _

theorem clearGuards_inPlace (s : State) : s.trk.InPlace (clearGuards s).trk :=
  .of_maps s.trk (fun b => b.inPlace_guarded _) fun g => g.billet.inPlace_guarded _

theorem computeGrants_inPlace (s : State) : s.trk.InPlace (computeGrants s).trk := by
  obtain ⟨d, h⟩ := computeGrants_eq s
  rw [h, State.withDsp_trk]
  split
  · exact setGuards_inPlace s
  · exact clearGuards_inPlace s

theorem dispatchExpires_inPlace (s : State) : s.trk.InPlace (dispatchExpires s).trk := by
  have h1 : (inferIdle (applyCadence s)).trk = s.trk := by
    obtain ⟨d, hd⟩ := applyCadence_eq s
    obtain ⟨e, he⟩ := inferIdle_eq (applyCadence s)
    rw [he, hd]
    rfl
  have h2 : (dispatchExpires s).trk = (computeGrants (inferIdle (applyCadence s))).trk :=
    (handSet_onlyIlc _ _).trk
  rw [h2, ← h1]
  exact computeGrants_inPlace _

theorem updatedTrack_inPlace (s : State) (r : RoundRecord) : s.trk.InPlace (updatedTrack s r) :=
  .of_maps s.trk (updateRowBillet_inPlace s r _) fun g => updateBillet_inPlace s _ 0 g.billet

theorem updateRecords_trk (r : RoundRecord) (s : State) : (updateRecords r s).trk = updatedTrack s r := by
  unfold updateRecords
  dsimp only
  rw [(raiseIf_onlyIlc ..).trk, (raiseIf_onlyIlc ..).trk, (raiseIf_onlyIlc ..).trk]
  rfl

theorem setGateFront_inPlace {s : State} {g h : GateBillet} (hg : gateFront s = some g)
    (hb : g.billet.InPlace h.billet) : s.trk.InPlace (setGateFront h s).trk := by
  unfold gateFront at hg
  unfold setGateFront
  cases hgate : s.trk.gate with
  | nil => exact .refl _
  | cons g' rest =>
    simp only [hgate, List.head?_cons, Option.some.injEq] at hg
    subst hg
    refine ⟨List.forall₂_same.2 fun _ _ => .refl _, ?_, rfl, rfl, rfl, rfl⟩
    show List.Forall₂ _ s.trk.gate (h :: rest)
    rw [hgate]
    exact .cons hb (List.forall₂_same.2 fun _ _ => .refl _)

theorem changeVerdict_trk (g : GateBillet) (v : Verdict) (s : State) :
    (changeVerdict g v s).trk = (setGateFront { g with verdict := v } s).trk := by
  unfold changeVerdict
  dsimp only
  split
  · obtain ⟨n, h, -⟩ := frontLeftReady_eq g.billet.tag
      (raise .verdict (setGateFront { g with verdict := v } s))
    rw [h]
    rfl
  · rfl

theorem reevaluate_inPlace (s : State) : s.trk.InPlace (reevaluate s).trk := by
  unfold reevaluate
  split
  · exact .refl _
  · rename_i g hg
    split
    · split
      · exact .refl _
      · rw [changeVerdict_trk]
        exact setGateFront_inPlace hg (.refl _)
    · exact .refl _

theorem noteExit_trk (m : Option Nat) (s : State) : (noteExit m s).trk = s.trk := by
  cases m <;> rfl

theorem correctFront_inPlace (m : Option Nat) (s : State) : s.trk.InPlace (correctFront m s).trk := by
  unfold correctFront
  split
  · exact .refl _
  · exact setGateFront_inPlace ‹_› (correctBillet_inPlace ..)

theorem decideFirst_inPlace (s : State) : s.trk.InPlace (decideFirst s).trk := by
  unfold decideFirst
  split
  · exact .refl _
  · rename_i g hg
    exact setGateFront_inPlace (h := { g with verdict := evaluateFront s g }) hg (.refl _)

theorem afterExit_inPlace (m : Option Nat) (s : State) : s.trk.InPlace (afterExit m s).trk := by
  have h := noteExit_trk m s
  unfold afterExit
  split
  · exact .refl _
  · exact .refl _
  · rw [← h]; exact decideFirst_inPlace _
  · split
    · rw [← h]; exact reevaluate_inPlace _
    · exact .refl _

theorem exitSample_inPlace (m : Option Nat) (s : State) : s.trk.InPlace (exitSample m s).trk := by
  unfold exitSample
  split
  · exact .refl _
  · exact .refl _
  · exact (correctFront_inPlace m s).trans (afterExit_inPlace m _)
  · exact (correctFront_inPlace m s).trans (afterExit_inPlace m _)

theorem rowSample_trk (m : Option Nat) (s : State) : (rowSample m s).trk = s.trk := by
  unfold rowSample
  split <;> rfl

theorem setPyro_trk (src : Pyro) (v : PyroInput) (s : State) : (setPyro src v s).trk = s.trk := by
  cases src <;> rfl

theorem takeSample_inPlace (src : Pyro) (value : Nat) (s : State) :
    s.trk.InPlace (takeSample src value s).trk := by
  cases src with
  | a => exact .of_eq (rowSample_trk ..)
  | b =>
    exact exitSample_inPlace (judged value)
      (s.withPyb { frame := [], lastSample := some { value := value, valid := (judged value).isSome } })

theorem receiveSampleByte_inPlace (src : Pyro) (s : State) (b : Byte) :
    s.trk.InPlace (receiveSampleByte src s b).trk := by
  rw [receiveSampleByte_spec]
  split
  · exact .refl _
  · split
    · exact .of_eq (setPyro_trk ..)
    · split
      · exact takeSample_inPlace ..
      · exact .of_eq (setPyro_trk ..)

theorem receiveSample_inPlace (src : Pyro) (bytes : List Byte) (s : State) :
    s.trk.InPlace (receiveSample src bytes s).trk := by
  unfold receiveSample
  induction bytes generalizing s with
  | nil => exact .refl _
  | cons b rest ih => exact (receiveSampleByte_inPlace src s b).trans (ih _)

theorem takeRound_inPlace (r : RoundRecord) (s : State) : s.trk.InPlace (takeRound r s).trk := by
  refine Track.InPlace.trans ?_ (reevaluate_inPlace (updateRecords r s))
  rw [updateRecords_trk]
  exact updatedTrack_inPlace s r

theorem applyCorrection_inPlace (c : Correction) (s : State) :
    s.trk.InPlace (applyCorrection c s).trk := by
  refine Track.InPlace.of_maps s.trk (fun b => ?_) fun g => ?_
  · split
    · exact correctBillet_inPlace ..
    · exact .refl b
  · split
    · exact correctBillet_inPlace ..
    · exact .refl g.billet

theorem takeCorrection_inPlace (c : Correction) (s : State) :
    s.trk.InPlace (takeCorrection c s).trk := by
  have h := applyCorrection_inPlace c s
  unfold takeCorrection
  dsimp only
  split
  · exact h
  · split
    · exact h.trans (afterExit_inPlace ..)
    · exact h

theorem settleExpires_trk (s : State) : (settleExpires s).trk = s.trk := by
  unfold settleExpires
  split
  · rfl
  · split <;> rfl

theorem waitExpires_inPlace (s : State) : s.trk.InPlace (waitExpires s).trk := by
  unfold waitExpires
  split
  · exact .refl _
  · split
    · exact decideFirst_inPlace (s.withEvu { s.evu with wait := none })
    · exact .refl _
    · exact .refl _
    · exact .refl _

end Sys2Proof.Machine
end

section
/-! PROOFS. The track under every step: the pending push and its timer, the tags, the ranges of the records,
the positions and the capacities (R2, R4, R5, R7, R8, R11, R15, R17, R41). -/

namespace Sys2Proof.Machine

/-! ### What an act does to the track -/

/-- What an act does to the track and the zone lengths. -/
inductive TrackAct (s u : State) : Prop
  | inPlace (ht : s.trk.InPlace u.trk) (hl : LengthsKept s u)
  | zoneLength (ht : u.trk = s.trk) (hrow : s.trk.row = []) (hgate : s.trk.gate = [])
      (hpush : s.trk.push = none)
      (hl : ∀ z, (u.zones.get z).length = (s.zones.get z).length ∨
        200 ≤ (u.zones.get z).length ∧ (u.zones.get z).length ≤ 800)
  | granted (x : PushArgs) (lot : Nat) (h : pushChecks s x = .ok lot)
      (ht : u.trk =
        { s.trk with
          push := some (grantedPush s x lot), state := .pushing, timer := some (s.ms + 10000) })
      (hl : LengthsKept s u)
  | applied (p : PendingPush) (est : EstimateState) (hp : s.trk.push = some p)
      (h : PushApplied p est s u) (hl : LengthsKept s u)
  | uncertain (hs : s.trk.state = .pushing)
      (ht : u.trk =
        { s.trk with
          row := s.trk.row.map fun b => { b with estimate := .untracked }
          state := .uncertain
          timer := none })
      (hl : LengthsKept s u)
  | dropped (generation : Nat)
      (ht : u.trk =
        { s.trk with push := none, state := .idle, timer := none, generation := generation })
      (hl : LengthsKept s u)
  | timerStops (hs : s.trk.state ≠ .pushing) (ht : u.trk = { s.trk with timer := none })
      (hl : LengthsKept s u)
  | purged (generation : Nat)
      (ht : u.trk =
        { row := [], gate := [], push := none, state := .idle, timer := none, generation := generation })
      (hl : LengthsKept s u)
  | removed (generation : Nat) (g : GateBillet) (rest : List GateBillet) (hg : s.trk.gate = g :: rest)
      (ht : u.trk =
        { s.trk with gate := advancedGate s.ms s.trk.gate, generation := generation })
      (hl : LengthsKept s u)

/-- An act that leaves the track and the zone records as they are. -/
theorem TrackAct.of_eq {s u : State} (ht : u.trk = s.trk) (hz : u.zones = s.zones) : TrackAct s u :=
  .inPlace (.of_eq ht) (.of_eq hz)

theorem lowerPositionA_eq (s : State) : ∃ p, lowerPositionA s = s.withPst p := by
  unfold lowerPositionA
  split
  · exact ⟨_, rfl⟩
  · exact ⟨s.pst, by simp⟩

/-- A zone record with a length stored holds it, and one with another field stored keeps its length. -/
theorem storeField_length (z : ZoneRecord) (field v : Nat) :
    (z.storeField field v).length = if field = 0 then v else z.length := by
  unfold ZoneRecord.storeField
  split
  · rfl
  · rw [if_neg (by decide)]
    unfold ZoneRecord.storeRating
    split <;> rfl
  · rw [if_neg ‹_›]
    unfold ZoneRecord.storeEnable
    split <;> rfl

theorem trackEmpty_iff (s : State) :
    trackEmpty s = true ↔ s.trk.row = [] ∧ s.trk.gate = [] ∧ s.trk.push = none := by
  simp [trackEmpty, and_assoc]

theorem le_clamp_le {lo hi v : Nat} (h : lo ≤ hi) : lo ≤ clamp lo hi v ∧ clamp lo hi v ≤ hi := by
  unfold clamp
  omega

/-- A deposit that passes its checks changes the track's surroundings by a zone length at most, and that only
while the track is empty (R129). -/
theorem storeField_track {s : State} {a : FieldAddress} {v : Nat}
    (h : depositRefusal s a (fitField s a v) = none) :
    TrackAct s (storeField a (fitField s a v) s) := by
  unfold storeField
  split
  · split <;> exact .of_eq rfl rfl
  · rename_i ha
    dsimp only
    generalize hr : (s.zones.get (recordZone a.record)).storeField a.field (fitField s a v) = r
    by_cases hf : a.field = 0
    · have hv : r.length = clamp 200 800 v := by
        rw [← hr, storeField_length, if_pos hf]
        simp [fitField, ha, hf]
      have hempty : trackEmpty s = true := by
        by_contra hne
        simp [depositRefusal, readOnlyField, ha, hf, hne] at h
      obtain ⟨hrow, hgate, hpush⟩ := (trackEmpty_iff s).1 hempty
      rw [if_pos hf]
      obtain ⟨p, hp⟩ := lowerPositionA_eq (s.withZones (s.zones.set (recordZone a.record) r))
      rw [hp]
      refine .zoneLength rfl hrow hgate hpush fun z => ?_
      rw [State.withPst_zones, State.withZones_zones]
      by_cases hz : z = recordZone a.record
      · subst hz
        rw [PerZone.get_set_same, hv]
        exact .inr (le_clamp_le (lo := 200) (hi := 800) (by decide))
      · rw [PerZone.get_set_ne _ _ hz]
        exact .inl rfl
    · rw [if_neg hf]
      exact .inPlace (.refl _) (.set _ r rfl (by rw [← hr, storeField_length, if_neg hf]))
  · split
    · exact .of_eq rfl rfl
    · split <;> exact .of_eq rfl rfl
  · exact .of_eq rfl rfl

theorem setNewestLoad_eq (n : Nat) (s : State) :
    ∃ lots ntc, setNewestLoad n s = (s.withLot lots).withNtc ntc := by
  unfold setNewestLoad
  split
  · exact ⟨s.lot, s.ntc, by simp⟩
  · rename_i l _
    obtain ⟨n, h⟩ := closeLots_eq
      (s.withLot { s.lot with queue := s.lot.queue.dropLast ++ [{ l with toLoad := n }] })
    rw [h]
    exact ⟨_, n, rfl⟩

theorem dispatchExpires_lengths (s : State) : LengthsKept s (dispatchExpires s) := by
  have h1 : (computeGrants (inferIdle (applyCadence s))).zones = s.zones := by
    obtain ⟨d, hd⟩ := applyCadence_eq s
    obtain ⟨e, he⟩ := inferIdle_eq (applyCadence s)
    obtain ⟨f, hf⟩ := computeGrants_eq (inferIdle (applyCadence s))
    rw [hf, he, hd]
    split <;> rfl
  have h2 := (LengthsKept.of_eq h1).trans (handSet_lengths
    { setpoints := (computeGrants (inferIdle (applyCadence s))).dsp.setpoints
      grants := (computeGrants (inferIdle (applyCadence s))).dsp.grants } _)
  exact ⟨h2.length⟩

theorem gateFront_eq_some {s : State} {g : GateBillet} (h : gateFront s = some g) :
    s.trk.gate = g :: s.trk.gate.tail := by
  unfold gateFront at h
  cases hg : s.trk.gate with
  | nil => simp [hg] at h
  | cons x xs => simpa [hg] using h

theorem handOver_track {s : State} {g : GateBillet} (count : Lot → Lot) (hg : gateFront s = some g) :
    TrackAct s (handOver count g.billet s) := by
  have hgate := gateFront_eq_some hg
  obtain ⟨ht, -⟩ := handOver_spec count g _ s hgate
  exact .removed _ g _ hgate ht (.of_eq (handOver_zones count hgate))

theorem applyPush_track {s : State} {p : PendingPush} (est : EstimateState) (hp : s.trk.push = some p) :
    TrackAct s (applyPush p est s) :=
  .applied p est hp (applyPush_spec p est s).1 (.of_eq (applyPush_zones p est s))

theorem purgeTrack_trk (s : State) :
    (purgeTrack s).trk =
        { row := [], gate := [], push := none, state := .idle, timer := none
          generation := nextGeneration s.trk.generation } ∧ (purgeTrack s).zones = s.zones := by
  have h := purgeTrack_spec s
  exact ⟨h.trk, by simpa using congrArg State.zones h.rest⟩

/-- Every act on the track is one of `TrackAct`. -/
theorem Act.track {i : Instr} {s u : State} (h : Act i s u) : TrackAct s u := by
  cases h with
  | same => exact .of_eq rfl rfl
  | linkErrors => exact .of_eq rfl rfl
  | loses =>
    obtain ⟨n, h⟩ := loseReservation_eq s
    rw [h]
    exact .of_eq rfl rfl
  | noticeRead => exact .of_eq rfl rfl
  | noticeClear => exact .of_eq rfl rfl
  | noticeMask => exact .of_eq rfl rfl
  | deposit st x _ a ha h => exact storeField_track h
  | loadRecipe => exact .of_eq rfl rfl
  | pushRequest st x _ lot h => exact .granted x lot h rfl (.of_eq rfl)
  | pushDone st x _ p hst hs hp ht hw => exact applyPush_track .tracked hp
  | slips _ _ hs =>
    exact .uncertain hs (enterUncertain_spec s).1 (.of_eq (enterUncertain_zones s))
  | pushCancel _ _ hs =>
    exact .dropped s.trk.generation (dropPush_spec s).1 (.of_eq (dropPush_zones s))
  | pushTimerStops _ _ hs => exact .timerStops hs rfl (.of_eq rfl)
  | resyncNotApplied st d _ hst hd hs =>
    have ht := (dropPush_spec (s.withTrk { s.trk with generation := nextGeneration s.trk.generation })).1
    have hz := dropPush_zones (s.withTrk { s.trk with generation := nextGeneration s.trk.generation })
    unfold Machine.resyncNotApplied
    rw [dispatcherUnblocks_spec]
    exact .dropped (nextGeneration s.trk.generation) ht (.of_eq hz)
  | resyncApplied st _ p hst hs hp =>
    obtain ⟨h1, h2, h3⟩ := (applyPush_spec p .untracked s).1
    rw [dispatcherUnblocks_spec]
    exact .applied p .untracked hp ⟨h1, h2, h3⟩ (.of_eq (applyPush_zones p .untracked s))
  | purge =>
    obtain ⟨ht, hz⟩ := purgeTrack_trk s
    exact .purged _ ht (.of_eq hz)
  | reserve => exact .of_eq rfl rfl
  | take st tag _ g hst h0 hr hg ht => exact handOver_track _ hg
  | discard st tag _ g hst hg ht => exact handOver_track _ hg
  | cadence => exact .of_eq rfl rfl
  | run => exact .of_eq rfl rfl
  | stop => exact .of_eq rfl rfl
  | zoneRestore _ z =>
    refine .inPlace (.refl _) (.set z _ rfl ?_)
    unfold ZoneRecord.restored
    split <;> rfl
  | lotOpen => exact .of_eq rfl rfl
  | newestLoad _ n =>
    obtain ⟨lots, ntc, h⟩ := setNewestLoad_eq n s
    rw [h]
    exact .of_eq rfl rfl
  | permitLost =>
    have h1 := dispatchExpires_inPlace
      (makeExpiryDue (raise .permitOff (haltHeating .stopped (s.withPermit false))))
    have h2 := dispatchExpires_lengths
      (makeExpiryDue (raise .permitOff (haltHeating .stopped (s.withPermit false))))
    exact .inPlace h1 ⟨h2.length⟩
  | permitPresent => exact .of_eq rfl rfl
  | dispatchExpiry => exact .inPlace (dispatchExpires_inPlace s) (dispatchExpires_lengths s)
  | inverterReply _ r => exact .inPlace (.of_eq (takeReply_onlyIlc r s).trk) (takeReply_lengths r s)
  | windowCloses => exact .inPlace (.of_eq (closeWindow_onlyIlc s).trk) (closeWindow_lengths s)
  | round _ r => exact .inPlace (takeRound_inPlace r s) (.of_eq (takeRound_onlyFront r s).zones)
  | correction _ c => exact .inPlace (takeCorrection_inPlace c s) (.of_eq (takeCorrection_onlyFront c s).zones)
  | samples _ src bytes => exact .inPlace (receiveSample_inPlace src bytes s) (.of_eq (receiveSample_onlyVerdict src bytes s).zones)
  | hunts _ src => exact .inPlace (.of_eq (setPyro_trk ..)) (.of_eq (setPyro_onlyVerdict ..).zones)
  | settles => exact .inPlace (.of_eq (settleExpires_trk s)) (.of_eq (settleExpires_onlyFront s).zones)
  | waits => exact .inPlace (waitExpires_inPlace s) (.of_eq (waitExpires_onlyFront s).zones)

end Sys2Proof.Machine
end

section
namespace Sys2Proof.Machine

/-! ### The records after an act -/

theorem arrivedGate_billets (ms : Nat) (gate : List GateBillet) (moved : List Billet) :
    (arrivedGate ms gate moved).map (·.billet) = gate.map (·.billet) ++ moved := by
  cases gate with
  | nil => cases moved <;> simp [arrivedGate, Function.comp_def]
  | cons g rest => simp [arrivedGate, Function.comp_def]

theorem advancedGate_billets (ms : Nat) (gate : List GateBillet) :
    (advancedGate ms gate).map (·.billet) = gate.tail.map (·.billet) := by
  unfold advancedGate
  split <;> rfl

theorem mem_of_forall₂ {α : Type} {R : α → α → Prop} {l m : List α} (h : List.Forall₂ R l m) {c : α}
    (hc : c ∈ m) : ∃ b ∈ l, R b c := by
  induction h with
  | nil => simp at hc
  | @cons b d l m hbd _ ih =>
    obtain rfl | hc := List.mem_cons.1 hc
    · exact ⟨b, by simp, hbd⟩
    · obtain ⟨b', hb', hr⟩ := ih hc
      exact ⟨b', by simp [hb'], hr⟩

theorem map_eq_of_forall₂ {α β : Type} {R : α → α → Prop} {f : α → β} (hf : ∀ a b, R a b → f b = f a)
    {l m : List α} (h : List.Forall₂ R l m) : m.map f = l.map f := by
  induction h with
  | nil => rfl
  | cons hab _ ih => rw [List.map_cons, List.map_cons, hf _ _ hab, ih]

theorem countP_eq_of_forall₂ {α : Type} {R : α → α → Prop} {p : α → Bool}
    (hp : ∀ a b, R a b → p b = p a) {l m : List α} (h : List.Forall₂ R l m) :
    m.countP p = l.countP p := by
  induction h with
  | nil => rfl
  | cons hab _ ih => rw [List.countP_cons, List.countP_cons, hp _ _ hab, ih]

theorem Track.InPlace.mem_billets {s u : State} (h : s.trk.InPlace u.trk) {c : Billet}
    (hc : c ∈ billets u) : ∃ b ∈ billets s, b.InPlace c := by
  obtain hc | hc := List.mem_append.1 hc
  · obtain ⟨g', hg', rfl⟩ := List.mem_map.1 hc
    obtain ⟨g, hg, hb⟩ := mem_of_forall₂ h.gate hg'
    exact ⟨g.billet, List.mem_append_left _ (List.mem_map_of_mem hg), hb⟩
  · obtain ⟨b, hb, hr⟩ := mem_of_forall₂ h.row hc
    exact ⟨b, List.mem_append_right _ hb, hr⟩

/-- What every record keeps where it stands reads the same all over the track. -/
theorem Track.InPlace.map_billets {β : Type} {f : Billet → β} (hf : ∀ b c, Billet.InPlace b c → f c = f b)
    {s u : State} (h : s.trk.InPlace u.trk) : (billets u).map f = (billets s).map f := by
  unfold billets
  rw [List.map_append, List.map_append, List.map_map, List.map_map]
  have hg := map_eq_of_forall₂ (f := f ∘ GateBillet.billet) (fun _ _ => hf _ _) h.gate
  exact congrArg₂ (· ++ ·) hg (map_eq_of_forall₂ hf h.row)

/-- The records after a push: the gate with those that left the row, the row without them, and the record of the
push (R16, R17). -/
theorem billets_of_pushApplied {p : PendingPush} {est : EstimateState} {s u : State}
    (h : PushApplied p est s u) :
    billets u = (s.trk.gate.map (·.billet) ++ leaving s p.length) ++
      ((staying s p.length).map (fun b => { b with trailing := b.trailing + p.length }) ++
        [newBillet s p est]) := by
  unfold billets
  rw [h.1, arrivedGate_billets]
  rfl

theorem staying_mem {s : State} {len : Nat} {b : Billet} (h : b ∈ staying s len) : b ∈ s.trk.row :=
  (List.mem_filter.1 h).1

theorem leaving_mem {s : State} {len : Nat} {b : Billet} (h : b ∈ leaving s len) : b ∈ s.trk.row :=
  (List.mem_filter.1 h).1

theorem mem_billets_gate {s : State} {g : GateBillet} (h : g ∈ s.trk.gate) : g.billet ∈ billets s :=
  List.mem_append_left _ (List.mem_map_of_mem h)

theorem mem_billets_row {s : State} {b : Billet} (h : b ∈ s.trk.row) : b ∈ billets s :=
  List.mem_append_right _ h

/-- A record in the track after an act was in it before and is kept, or is the record of the pending push
(R3). -/
theorem TrackAct.mem_billets {s u : State} (h : TrackAct s u) {c : Billet} (hc : c ∈ billets u) :
    (∃ b ∈ billets s, b.Kept c) ∨ ∃ p est, s.trk.push = some p ∧ c = newBillet s p est := by
  have hold : c ∈ billets s → ∃ b ∈ billets s, b.Kept c := fun h => ⟨c, h, .refl c⟩
  cases h with
  | inPlace ht =>
    obtain ⟨b, hb, hk⟩ := ht.mem_billets hc
    exact .inl ⟨b, hb, hk.toKept⟩
  | zoneLength ht =>
    unfold billets at hc hold
    rw [ht] at hc
    exact .inl (hold hc)
  | granted x lot _ ht =>
    unfold billets at hc hold
    rw [ht] at hc
    exact .inl (hold hc)
  | applied p est hp h =>
    rw [billets_of_pushApplied h] at hc
    simp only [List.mem_append, List.mem_map, List.mem_singleton] at hc
    obtain (⟨g, hg, rfl⟩ | hl) | ⟨b, hb, rfl⟩ | rfl := hc
    · exact .inl (hold (mem_billets_gate hg))
    · exact .inl (hold (mem_billets_row (leaving_mem hl)))
    · exact .inl ⟨b, mem_billets_row (staying_mem hb),
        ⟨rfl, rfl, rfl, rfl, rfl, rfl, id, id, fun h => ⟨le_rfl, h⟩, id, id, id⟩⟩
    · exact .inr ⟨p, est, hp, rfl⟩
  | uncertain _ ht =>
    unfold billets at hc
    rw [ht] at hc
    obtain hc | hc := List.mem_append.1 hc
    · exact .inl (hold (List.mem_append_left _ hc))
    · obtain ⟨b, hb, rfl⟩ := List.mem_map.1 hc
      exact .inl ⟨b, mem_billets_row hb, b.inPlace_untracked.toKept⟩
  | dropped _ ht =>
    unfold billets at hc hold
    rw [ht] at hc
    exact .inl (hold hc)
  | timerStops _ ht =>
    unfold billets at hc hold
    rw [ht] at hc
    exact .inl (hold hc)
  | purged _ ht =>
    unfold billets at hc
    rw [ht] at hc
    simp at hc
  | removed _ g rest hg ht =>
    unfold billets at hc
    rw [ht, advancedGate_billets, hg] at hc
    refine .inl (hold ?_)
    unfold billets
    rw [hg]
    exact List.mem_cons_of_mem _ hc

/-! ### The pending push (R8, R20, R21) -/

theorem TrackAct.pushMatchesState {s u : State} (h : TrackAct s u) (hs : PushMatchesState s) :
    PushMatchesState u := by
  obtain ⟨hidle, htimer⟩ := hs
  cases h with
  | inPlace ht => rw [PushMatchesState, ht.state, ht.push, ht.timer]; exact ⟨hidle, htimer⟩
  | zoneLength ht => rw [PushMatchesState, ht]; exact ⟨hidle, htimer⟩
  | granted x lot _ ht => rw [PushMatchesState, ht]; simp
  | applied p est hp h => rw [PushMatchesState, h.1]; simp
  | uncertain hp ht =>
    have hpush : s.trk.push ≠ none := fun h => by simp [hp] at hidle; exact hidle h
    rw [PushMatchesState, ht]
    simp [hpush]
  | dropped _ ht => rw [PushMatchesState, ht]; simp
  | timerStops hp ht => rw [PushMatchesState, ht]; exact ⟨hidle, by simpa using hp⟩
  | purged _ ht => rw [PushMatchesState, ht]; simp
  | removed _ _ _ _ ht => rw [PushMatchesState, ht]; exact ⟨hidle, htimer⟩

/-! ### The tags (R7, R13) -/

theorem tagHeld_iff (s : State) (tag : Nat) : tagHeld s tag = true ↔ tag ∈ trackTags s := by
  unfold tagHeld trackTags billets
  have hpush : (s.trk.push.any fun p => p.tag == tag) = true ↔ tag ∈ (s.trk.push.map (·.tag)).toList := by
    cases s.trk.push <;> simp [eq_comm (a := tag)]
  rw [Bool.or_eq_true, Bool.or_eq_true, hpush]
  simp only [List.any_eq_true, beq_iff_eq, List.map_append, List.mem_append, List.map_map, List.mem_map,
    Function.comp_apply, or_comm (a := ∃ b ∈ s.trk.row, b.tag = tag)]

/-- Tags that all stand among the tags before, each at most as often, stay distinct. -/
theorem TagsDistinct.of_subperm {s u : State} (h : (trackTags u).Subperm (trackTags s))
    (hs : TagsDistinct s) : TagsDistinct u :=
  have ⟨_, hp, hl⟩ := h
  ⟨hp.nodup_iff.1 (hl.nodup hs.1), fun h0 => hs.2 (h.subset h0)⟩

/-- What a push leaves of a record but for its trailing face stands in the track once more after it, together with
that of the new record. -/
theorem pushApplied_perm {β : Type} {f : Billet → β} (hf : ∀ b n, f { b with trailing := n } = f b)
    {p : PendingPush} {est : EstimateState} {s u : State} (h : PushApplied p est s u) :
    ((billets u).map f).Perm (f (newBillet s p est) :: (billets s).map f) := by
  have hstay : staying s p.length = s.trk.row.filter fun b => !pushedOut s p.length b := by
    refine List.filter_congr fun b _ => ?_
    simp [pushedOut, ← decide_not]
  have hperm : (leaving s p.length ++ staying s p.length).Perm s.trk.row := by
    rw [hstay]
    exact List.filter_append_perm (pushedOut s p.length) s.trk.row
  have hmoved : (staying s p.length).map (f ∘ fun b => { b with trailing := b.trailing + p.length }) =
      (staying s p.length).map f := List.map_congr_left fun b _ => hf b _
  have hall := (hperm.map f).append_left ((s.trk.gate.map (·.billet)).map f)
  rw [billets_of_pushApplied h]
  unfold billets
  simp only [List.map_append, List.map_map, hmoved, List.map_cons, List.map_nil, List.append_assoc] at hall ⊢
  rw [← List.append_assoc, ← List.append_assoc]
  refine (List.perm_append_singleton ..).trans (List.Perm.cons _ ?_)
  rwa [List.append_assoc]

theorem pushApplied_trackTags {p : PendingPush} {est : EstimateState} {s u : State}
    (h : PushApplied p est s u) (hp : s.trk.push = some p) : (trackTags u).Perm (trackTags s) := by
  have hpush : u.trk.push = none := by rw [h.1]
  unfold trackTags
  rw [hpush, hp, Option.map_none, Option.toList_none, List.append_nil]
  exact (pushApplied_perm (f := (·.tag)) (fun _ _ => rfl) h).trans (List.perm_append_singleton ..).symm

/-- What the seven checks of a PUSH REQUEST say of a push that passes them (R13). -/
theorem pushChecks_ok {s : State} {x : PushArgs} {lot : Nat} (h : pushChecks s x = .ok lot) :
    s.trk.state = .idle ∧ x.tag ≠ 0 ∧ x.tag ∉ trackTags s ∧ (60 ≤ x.length ∧ x.length ≤ 600) ∧
      recipeValid s x.recipe = true ∧ lotAdmits s x.recipe = .ok lot ∧
      s.trk.row.length + 1 ≤ 40 + movedBy s x.length ∧
      s.trk.gate.length + movedBy s x.length ≤ 2 := by
  rw [← tagHeld_iff]
  unfold pushChecks at h
  split at h
  · cases h
  · cases h
  · rename_i hst
    split at h
    · cases h
    · rename_i h0
      split at h
      · cases h
      · rename_i hheld
        split at h
        · cases h
        · rename_i hlen
          split at h
          · cases h
          · rename_i hval
            split at h
            · cases h
            · rename_i hlot
              split at h
              · cases h
              · split at h
                · cases h
                · cases h
                  exact ⟨hst, h0, hheld, by omega, by simpa using hval, hlot, by omega, by omega⟩

theorem TrackAct.tagsDistinct {s u : State} (h : TrackAct s u) (hs : TagsDistinct s) : TagsDistinct u := by
  have hsame : (billets u).map (·.tag) = (billets s).map (·.tag) → u.trk.push = s.trk.push →
      TagsDistinct u := fun h1 h2 => by
    unfold TagsDistinct trackTags at *
    rwa [h1, h2]
  have hfewer : ((billets u).map (·.tag)).Sublist ((billets s).map (·.tag)) →
      u.trk.push = none ∨ u.trk.push = s.trk.push → TagsDistinct u := fun h1 h2 => by
    refine TagsDistinct.of_subperm (List.Sublist.subperm ?_) hs
    unfold trackTags
    obtain h2 | h2 := h2
    · rw [h2]
      simpa using h1.trans (List.sublist_append_left _ _)
    · rw [h2]
      exact h1.append_right _
  cases h with
  | inPlace ht => exact hsame (ht.map_billets fun _ _ h => h.tag) ht.push
  | zoneLength ht => exact hsame (by simp [billets, ht]) (by rw [ht])
  | granted x lot hc ht =>
    obtain ⟨-, hx0, hx, -⟩ := pushChecks_ok hc
    have htags : trackTags u = (billets s).map (·.tag) ++ [x.tag] := by
      simp [trackTags, billets, ht, grantedPush]
    obtain ⟨hnodup, h0⟩ := hs
    unfold trackTags at hnodup h0 hx
    unfold TagsDistinct
    rw [htags]
    constructor
    · rw [List.nodup_append_comm, List.singleton_append, List.nodup_cons]
      exact ⟨fun h => hx (List.mem_append_left _ h), (List.nodup_append.1 hnodup).1⟩
    · rw [List.mem_append, List.mem_singleton]
      rintro (h | h)
      · exact h0 (List.mem_append_left _ h)
      · exact hx0 h.symm
  | applied p est hp h => exact .of_subperm (pushApplied_trackTags h hp).subperm hs
  | uncertain _ ht => exact hsame (by simp [billets, ht, Function.comp_def]) (by rw [ht])
  | dropped _ ht => exact hfewer (by simp [billets, ht]) (.inl (by rw [ht]))
  | timerStops _ ht => exact hsame (by simp [billets, ht]) (by rw [ht])
  | purged _ ht => exact hfewer (by simp [billets, ht]) (.inl (by rw [ht]))
  | removed _ g rest hg ht =>
    refine hfewer ?_ (.inr (by rw [ht]))
    unfold billets
    rw [ht, advancedGate_billets, hg]
    exact ((List.sublist_cons_self _ _).append_right _).map _

/-! ### The ranges (R2, R14, R41) -/

theorem recipeValid_le {s : State} {n : Nat} (h : recipeValid s n = true) : n ≤ 15 := by
  simp only [recipeValid, Bool.and_eq_true, decide_eq_true_eq] at h
  exact h.1

theorem grantedTemp_le (t : Option Nat) : grantedTemp t ≤ 6000 := by
  unfold grantedTemp
  split <;> omega

theorem TrackAct.recordsInRange {s u : State} (h : TrackAct s u) (hs : RecordsInRange s) :
    RecordsInRange u := by
  obtain ⟨hb, hp⟩ := hs
  constructor
  · intro c hc
    obtain ⟨b, hbs, hk⟩ | ⟨p, est, hps, rfl⟩ := h.mem_billets hc
    · obtain ⟨h1, h2, h3, h4, h5, h6, h7⟩ := hb b hbs
      exact ⟨hk.ts h1, hk.tc h2, hk.entryTemp ▸ h3, (hk.energy h4).2, hk.length ▸ h5, hk.length ▸ h6,
        hk.recipe ▸ h7⟩
    · obtain ⟨h1, h2, h3, h4⟩ := hp p hps
      simp only [newBillet]
      omega
  · intro p hpu
    cases h with
    | inPlace ht => exact hp p (by rwa [ht.push] at hpu)
    | zoneLength ht => exact hp p (by rwa [ht] at hpu)
    | granted x lot hc ht =>
      rw [ht] at hpu
      cases hpu
      obtain ⟨-, -, -, ⟨h1, h2⟩, h3, -⟩ := pushChecks_ok hc
      exact ⟨grantedTemp_le _, h1, h2, recipeValid_le h3⟩
    | applied q est hq h => rw [h.1] at hpu; cases hpu
    | uncertain _ ht => exact hp p (by rwa [ht] at hpu)
    | dropped _ ht => rw [ht] at hpu; cases hpu
    | timerStops _ ht => exact hp p (by rwa [ht] at hpu)
    | purged _ ht => rw [ht] at hpu; cases hpu
    | removed _ _ _ _ ht => exact hp p (by rwa [ht] at hpu)

/-! ### The positions (R4, R5, R11) -/

/-- Every record of a contiguous row stands below R, and none before the front's trailing face is further. -/
theorem contiguous_trailing {r : Nat} {b : Billet} {row : List Billet} (h : Contiguous r (b :: row)) :
    ∀ c ∈ b :: row, c.trailing < r ∧ c.trailing ≤ b.trailing := by
  induction row generalizing b with
  | nil =>
    simp only [List.mem_singleton]
    rintro c rfl
    exact ⟨h.2, le_rfl⟩
  | cons d rest ih =>
    obtain ⟨hbd, hb, hrest⟩ := h
    intro c hc
    obtain rfl | hc := List.mem_cons.1 hc
    · exact ⟨hb, le_rfl⟩
    · obtain ⟨h1, h2⟩ := ih hrest c hc
      refine ⟨h1, h2.trans ?_⟩
      rw [hbd]
      exact Nat.le_add_right _ _

/-- A contiguous row stays contiguous when every record keeps its trailing face and its length. -/
theorem Contiguous.inPlace {r : Nat} {row row' : List Billet} (h : Contiguous r row)
    (hr : List.Forall₂ Billet.InPlace row row') : Contiguous r row' := by
  induction hr with
  | nil => trivial
  | @cons b c rest rest' hbc hrest ih =>
    cases hrest with
    | nil => exact ⟨hbc.trailing.trans h.1, hbc.trailing ▸ h.2⟩
    | @cons b' c' _ _ hbc' _ =>
      obtain ⟨h1, h2, h3⟩ := h
      refine ⟨?_, hbc.trailing ▸ h2, ih h3⟩
      rw [hbc.trailing, h1, Billet.leading, Billet.leading, hbc'.trailing, hbc'.length]

/-- The records that a push leaves in the row, moved on, with the new record behind them stand end to end: those
that leave are the ones in front (R4, R16). -/
theorem contiguous_pushed {r len : Nat} {row : List Billet} {new : Billet} (h : Contiguous r row)
    (hr : 0 < r) (hnew : new.trailing = 0) (hlen : new.length = len) :
    Contiguous r
      ((row.filter fun b => decide (b.trailing + len < r)).map
        (fun b => { b with trailing := b.trailing + len }) ++ [new]) := by
  induction row with
  | nil => exact ⟨hnew, by simpa [hnew] using hr⟩
  | cons b rest ih =>
    by_cases hb : b.trailing + len < r
    · rw [List.filter_cons_of_pos (by simpa using hb)]
      cases rest with
      | nil =>
        refine ⟨?_, by simpa using hb, hnew, by simpa [hnew] using hr⟩
        simp [Billet.leading, hnew, hlen, h.1]
      | cons c rest =>
        obtain ⟨h1, h2, h3⟩ := h
        have hc : c.trailing + len < r := by
          have : b.trailing = c.trailing + c.length := h1
          omega
        have h4 := ih h3
        rw [List.filter_cons_of_pos (by simpa using hc)] at h4 ⊢
        refine ⟨?_, by simpa using hb, h4⟩
        simp only [Billet.leading] at h1 ⊢
        omega
    · rw [List.filter_cons_of_neg (by simpa using hb)]
      cases rest with
      | nil => exact ⟨hnew, by simpa [hnew] using hr⟩
      | cons c rest => exact ih h.2.2

theorem rowLength_pos {s : State} (h : ∀ z, 200 ≤ (s.zones.get z).length) : 0 < rowLength s := by
  have := h .z1
  simp only [rowLength, ZoneNo.all, List.map_cons, List.sum_cons]
  omega

theorem TrackAct.positionsKept {s u : State} (h : TrackAct s u) (hs : PositionsKept s) :
    PositionsKept u := by
  obtain ⟨hrow, hgate, hzones⟩ := hs
  have hkept : LengthsKept s u → ∀ z, 200 ≤ (u.zones.get z).length ∧ (u.zones.get z).length ≤ 800 :=
    fun hl z => by rw [hl.length z]; exact hzones z
  have hsame : LengthsKept s u → u.trk.row = s.trk.row → (∀ g ∈ u.trk.gate, ∃ g' ∈ s.trk.gate,
      g.billet = g'.billet) → PositionsKept u := fun hl h1 h2 => by
    refine ⟨by rwa [hl.rowLength, h1], fun g hg => ?_, hkept hl⟩
    obtain ⟨g', hg', he⟩ := h2 g hg
    rw [hl.rowLength, he]
    exact hgate g' hg'
  have hself : ∀ g ∈ s.trk.gate, ∃ g' ∈ s.trk.gate, g.billet = g'.billet := fun g hg => ⟨g, hg, rfl⟩
  cases h with
  | inPlace ht hl =>
    refine ⟨hl.rowLength ▸ hrow.inPlace ht.row, fun g hg => ?_, hkept hl⟩
    obtain ⟨g', hg', he⟩ := mem_of_forall₂ ht.gate hg
    rw [hl.rowLength, he.trailing]
    exact hgate g' hg'
  | zoneLength ht h1 h2 h3 hl =>
    refine ⟨by rw [ht, h1]; trivial, by rw [ht, h2]; exact fun _ h => (nomatch h), fun z => ?_⟩
    obtain h | h := hl z
    · rw [h]; exact hzones z
    · exact h
  | granted x lot _ ht hl => exact hsame hl (by rw [ht]) (by rw [ht]; exact hself)
  | applied p est hp h hl =>
    refine ⟨?_, fun g hg => ?_, hkept hl⟩
    · rw [hl.rowLength, h.1]
      exact contiguous_pushed hrow (rowLength_pos fun z => (hzones z).1) rfl rfl
    · have hg' : g.billet ∈ u.trk.gate.map (·.billet) := List.mem_map_of_mem hg
      rw [h.1, arrivedGate_billets, List.mem_append, List.mem_map] at hg'
      rw [hl.rowLength]
      obtain ⟨g', hg', he⟩ | hl' := hg'
      · rw [← he]
        exact hgate g' hg'
      · have hb := leaving_mem hl'
        cases hr : s.trk.row with
        | nil => simp [hr] at hb
        | cons b rest =>
          rw [hr] at hb hrow
          exact (contiguous_trailing hrow _ hb).1
  | uncertain _ ht hl =>
    refine ⟨?_, fun g hg => ?_, hkept hl⟩
    · rw [hl.rowLength, ht]
      exact hrow.inPlace (forall₂_map_right (fun b => b.inPlace_untracked) _)
    · rw [ht] at hg
      rw [hl.rowLength]
      exact hgate g hg
  | dropped _ ht hl => exact hsame hl (by rw [ht]) (by rw [ht]; exact hself)
  | timerStops _ ht hl => exact hsame hl (by rw [ht]) (by rw [ht]; exact hself)
  | purged _ ht hl =>
    exact ⟨by rw [ht]; trivial, by rw [ht]; exact fun _ h => (nomatch h), hkept hl⟩
  | removed _ g rest hg ht hl =>
    refine hsame hl (by rw [ht]) fun g' hg' => ?_
    have hb : g'.billet ∈ u.trk.gate.map (·.billet) := List.mem_map_of_mem hg'
    rw [ht, advancedGate_billets] at hb
    obtain ⟨g'', hg'', he⟩ := List.mem_map.1 hb
    exact ⟨g'', List.mem_of_mem_tail hg'', he.symm⟩

/-! ### The capacities (R4, R5, R15) -/

theorem movedBy_eq_leaving (s : State) (len : Nat) : movedBy s len = (leaving s len).length :=
  List.countP_eq_length_filter

theorem staying_length (s : State) (len : Nat) :
    (staying s len).length + movedBy s len = s.trk.row.length := by
  have h := List.length_eq_countP_add_countP (pushedOut s len) (l := s.trk.row)
  have hs : (staying s len).length = s.trk.row.countP fun b => ¬pushedOut s len b := by
    rw [staying, ← List.countP_eq_length_filter]
    refine List.countP_congr fun b _ => ?_
    simp [pushedOut]
  unfold movedBy
  omega

/-- How many records a push moves out depends on their trailing faces and on R alone. -/
theorem movedBy_congr {s u : State} (hr : List.Forall₂ (fun b c : Billet => c.trailing = b.trailing)
    s.trk.row u.trk.row) (hl : LengthsKept s u) (len : Nat) : movedBy u len = movedBy s len := by
  have hp : pushedOut u len = fun b : Billet => decide (rowLength s ≤ b.trailing + len) := by
    funext b
    rw [pushedOut, hl.rowLength]
  unfold movedBy
  rw [hp]
  exact countP_eq_of_forall₂ (fun b c h => by rw [h]) hr

theorem TrackAct.capacityKept {s u : State} (h : TrackAct s u) (hs : CapacityKept s) : CapacityKept u := by
  obtain ⟨hrow, hgate, hpush⟩ := hs
  have hsame : ∀ r : List Billet, r = s.trk.row →
      List.Forall₂ (fun b c : Billet => c.trailing = b.trailing) s.trk.row r := fun r h => by
    subst h; exact List.forall₂_same.2 fun _ _ => rfl
  have hkept : List.Forall₂ (fun b c : Billet => c.trailing = b.trailing) s.trk.row u.trk.row →
      LengthsKept s u → u.trk.gate.length ≤ s.trk.gate.length →
      (∀ p ∈ u.trk.push, p ∈ s.trk.push) → CapacityKept u := fun h1 hl h2 h3 => by
    refine ⟨h1.length_eq ▸ hrow, h2.trans hgate, fun p hp => ?_⟩
    obtain ⟨h4, h5⟩ := hpush p (h3 p hp)
    rw [movedBy_congr h1 hl, ← h1.length_eq]
    omega
  cases h with
  | inPlace ht hl =>
    exact hkept (ht.row.imp fun _ _ h => h.trailing) hl ht.gate.length_eq.ge (fun p hp => by
      rwa [ht.push] at hp)
  | zoneLength ht h1 h2 h3 hl =>
    unfold CapacityKept
    rw [ht, h1, h2, h3]
    simp
  | granted x lot hc ht hl =>
    obtain ⟨-, -, -, -, -, -, h1, h2⟩ := pushChecks_ok hc
    have hr : u.trk.row = s.trk.row := by rw [ht]
    have hg : u.trk.gate = s.trk.gate := by rw [ht]
    have hp : u.trk.push = some (grantedPush s x lot) := by rw [ht]
    unfold CapacityKept
    rw [hr, hg, hp]
    refine ⟨hrow, hgate, fun p hp => ?_⟩
    cases hp
    rw [movedBy_congr (hsame _ hr) hl]
    exact ⟨h1, h2⟩
  | applied p est hp h hl =>
    obtain ⟨h1, h2⟩ := hpush p hp
    have hlen := staying_length s p.length
    have hgates : u.trk.gate.length = s.trk.gate.length + movedBy s p.length := by
      have h3 := congrArg List.length (arrivedGate_billets s.ms s.trk.gate (leaving s p.length))
      rw [h.1, movedBy_eq_leaving]
      simpa using h3
    refine ⟨?_, by omega, fun q hq => by rw [h.1] at hq; cases hq⟩
    rw [h.1]
    simp only [List.length_append, List.length_map, List.length_singleton]
    omega
  | uncertain _ ht hl =>
    have hr : u.trk.row = s.trk.row.map fun b => { b with estimate := .untracked } := by rw [ht]
    refine hkept ?_ hl (by rw [ht]) (by rw [ht]; exact fun _ => id)
    rw [hr]
    exact (forall₂_map_right (fun b => b.inPlace_untracked) _).imp fun _ _ h => h.trailing
  | dropped _ ht hl =>
    exact hkept (hsame _ (by rw [ht])) hl (by rw [ht]) fun p hp => by rw [ht] at hp; cases hp
  | timerStops _ ht hl =>
    exact hkept (hsame _ (by rw [ht])) hl (by rw [ht]) fun p hp => by rwa [ht] at hp
  | purged _ ht hl =>
    unfold CapacityKept
    rw [ht]
    simp
  | removed _ g rest hg ht hl =>
    refine hkept (hsame _ (by rw [ht])) hl ?_ fun p hp => by rwa [ht] at hp
    have h3 := congrArg List.length (advancedGate_billets s.ms s.trk.gate)
    have hlen : u.trk.gate.length = (advancedGate s.ms s.trk.gate).length := by rw [ht]
    simp only [List.length_map, List.length_tail] at h3
    omega

/-! ### The obligation -/

/-- The relations of the track, as `StepKeepsTrack` gives them. -/
theorem act_keeps_track {P : State → Prop} (hreset : ∀ straps s, P (powerOn straps s))
    (hlinks : ∀ s l, P s → P (s.withLinks l)) (hclock : ∀ s ms secs, P s → P (s.withClock ms secs))
    (hqueue : ∀ s q, P s → P (s.withPending q)) (hact : ∀ {s u}, TrackAct s u → P s → P u)
    {s t : State} (h : step s = .next t) : P s → P t :=
  step_keeps hclock hqueue
    (fun _ _ _ hi => exec_keeps hreset hlinks (fun _ _ _ ha => hact ha.track) hi) h

theorem reset_pushMatchesState : PushMatchesState State.reset := by decide

theorem reset_tagsDistinct : TagsDistinct State.reset := by decide

theorem reset_recordsInRange : RecordsInRange State.reset := by decide

theorem reset_positionsKept : PositionsKept State.reset :=
  ⟨trivial, fun _ h => (nomatch h), fun z => by cases z <;> decide⟩

theorem reset_capacityKept : CapacityKept State.reset := by decide

/-- Settles O55: what an act can do to the track is `TrackAct`, and each of its cases keeps the five
relations. -/
theorem stepKeepsTrack : Obligations.StepKeepsTrack := fun _ _ h =>
  ⟨act_keeps_track (fun _ _ => reset_pushMatchesState) (fun _ _ => id) (fun _ _ _ => id) (fun _ _ => id)
      TrackAct.pushMatchesState h,
    act_keeps_track (fun _ _ => reset_tagsDistinct) (fun _ _ => id) (fun _ _ _ => id) (fun _ _ => id)
      TrackAct.tagsDistinct h,
    act_keeps_track (fun _ _ => reset_recordsInRange) (fun _ _ => id) (fun _ _ _ => id) (fun _ _ => id)
      TrackAct.recordsInRange h,
    act_keeps_track (fun _ _ => reset_positionsKept) (fun _ _ => id) (fun _ _ _ => id) (fun _ _ => id)
      TrackAct.positionsKept h,
    act_keeps_track (fun _ _ => reset_capacityKept) (fun _ _ => id) (fun _ _ _ => id) (fun _ _ => id)
      TrackAct.capacityKept h⟩

end Sys2Proof.Machine
end

section
/-! PROOFS. Frames: the blocks that an expiry of the dispatch timer, a deposit, a push and the removal at the gate
leave as they are. -/

namespace Sys2Proof.Machine

/-- Only the track, the dispatcher, ILC and the zone records may differ: what an expiry of the dispatch timer
changes. -/
structure OnlyDispatch (s t : State) : Prop where
  ms : t.ms = s.ms
  secs : t.secs = s.secs
  permit : t.permit = s.permit
  unit : t.unit = s.unit
  est : t.est = s.est
  pst : t.pst = s.pst
  pya : t.pya = s.pya
  pyb : t.pyb = s.pyb
  evu : t.evu = s.evu
  phu : t.phu = s.phu
  lot : t.lot = s.lot
  ntc : t.ntc = s.ntc
  links : t.links = s.links
  pending : t.pending = s.pending

theorem OnlyDispatch.refl (s : State) : OnlyDispatch s s :=
  ⟨rfl, rfl, rfl, rfl, rfl, rfl, rfl, rfl, rfl, rfl, rfl, rfl, rfl, rfl⟩

theorem OnlyDispatch.trans {s t u : State} (h : OnlyDispatch s t) (h' : OnlyDispatch t u) :
    OnlyDispatch s u :=
  ⟨h'.ms.trans h.ms, h'.secs.trans h.secs, h'.permit.trans h.permit, h'.unit.trans h.unit,
    h'.est.trans h.est, h'.pst.trans h.pst, h'.pya.trans h.pya, h'.pyb.trans h.pyb,
    h'.evu.trans h.evu, h'.phu.trans h.phu, h'.lot.trans h.lot, h'.ntc.trans h.ntc,
    h'.links.trans h.links, h'.pending.trans h.pending⟩

/-- The four blocks put back give the state before. -/
theorem OnlyDispatch.restored {s t : State} (h : OnlyDispatch s t) :
    (((t.withDsp s.dsp).withTrk s.trk).withIlc s.ilc).withZones s.zones = s := by
  simp only [State.withDsp, State.withTrk, State.withIlc, State.withZones, h.ms, h.secs, h.permit,
    h.unit, h.est, h.pst, h.pya, h.pyb, h.evu, h.phu, h.lot, h.ntc, h.links, h.pending]

theorem withDsp_onlyDispatch (s : State) (v : Dispatcher) : OnlyDispatch s (s.withDsp v) :=
  ⟨rfl, rfl, rfl, rfl, rfl, rfl, rfl, rfl, rfl, rfl, rfl, rfl, rfl, rfl⟩

theorem withTrk_onlyDispatch (s : State) (v : Track) : OnlyDispatch s (s.withTrk v) :=
  ⟨rfl, rfl, rfl, rfl, rfl, rfl, rfl, rfl, rfl, rfl, rfl, rfl, rfl, rfl⟩

theorem handSet_onlyDispatch (d : DispatchSet) (s : State) : OnlyDispatch s (handSet d s) := by
  have h := handSet_onlyIlc d s
  have he : (handSet d s).est = s.est ∧ (handSet d s).ntc = s.ntc := by
    unfold handSet
    split <;> exact ⟨rfl, rfl⟩
  exact ⟨h.ms, h.secs, h.permit, h.unit, he.1, h.pst, h.pya, h.pyb, h.evu, h.phu, h.lot, he.2, h.links,
    h.pending⟩

theorem applyCadence_onlyDispatch (s : State) : OnlyDispatch s (applyCadence s) := by
  obtain ⟨d, h⟩ := applyCadence_eq s
  rw [h]
  exact withDsp_onlyDispatch s d

theorem inferIdle_onlyDispatch (s : State) : OnlyDispatch s (inferIdle s) := by
  obtain ⟨d, h⟩ := inferIdle_eq s
  rw [h]
  exact withDsp_onlyDispatch s d

theorem computeGrants_onlyDispatch (s : State) : OnlyDispatch s (computeGrants s) := by
  obtain ⟨d, h⟩ := computeGrants_eq s
  rw [h]
  split
  · exact (withTrk_onlyDispatch ..).trans (withDsp_onlyDispatch ..)
  · exact (withTrk_onlyDispatch ..).trans (withDsp_onlyDispatch ..)

theorem dispatchExpires_onlyDispatch (s : State) : OnlyDispatch s (dispatchExpires s) :=
  ((((applyCadence_onlyDispatch s).trans (inferIdle_onlyDispatch _)).trans
    (computeGrants_onlyDispatch _)).trans (handSet_onlyDispatch _ _)).trans (withDsp_onlyDispatch _ _)

/-! ### Deposits, pushes and removals -/

/-- A stored field changes the parameter store and the zone records alone. -/
theorem storeField_eq (a : FieldAddress) (v : Nat) (s : State) :
    ∃ zones pst, storeField a v s = (s.withZones zones).withPst pst := by
  unfold storeField
  split
  · split <;> exact ⟨s.zones, _, rfl⟩
  · dsimp only
    split
    · obtain ⟨p, h⟩ := lowerPositionA_eq (s.withZones
        (s.zones.set (recordZone a.record) ((s.zones.get (recordZone a.record)).storeField a.field v)))
      exact ⟨_, p, h⟩
    · exact ⟨_, _, (State.withPst_self _).symm⟩
  · split
    · exact ⟨s.zones, _, rfl⟩
    · split <;> exact ⟨s.zones, _, rfl⟩
  · exact ⟨s.zones, _, rfl⟩

/-- A push that is applied changes the track, EVU and LOT alone. -/
theorem applyPush_eq (p : PendingPush) (est : EstimateState) (s : State) :
    ∃ trk evu lot, applyPush p est s = ((s.withTrk trk).withEvu evu).withLot lot := by
  have h := (applyPush_spec p est s).2
  generalize applyPush p est s = u at h
  refine ⟨u.trk, u.evu, u.lot, ?_⟩
  rw [← h]
  rfl

theorem dropPush_eq (s : State) :
    ∃ lot ntc, dropPush s =
      ((s.withTrk { s.trk with push := none, state := .idle, timer := none }).withLot lot).withNtc ntc := by
  obtain ⟨n, h⟩ := closeLots_eq (s.withTrk { s.trk with push := none, state := .idle, timer := none })
  exact ⟨_, n, h⟩

/-- A track that becomes UNCERTAIN changes the track, the dispatcher and the notices alone (R21, R57). -/
theorem enterUncertain_eq (s : State) :
    ∃ ntc, enterUncertain s =
      ((s.withTrk
          { s.trk with
            row := s.trk.row.map fun b => { b with estimate := .untracked }
            state := .uncertain
            timer := none }).withDsp
        (if s.dsp.state = .run then
          { s.dsp with
            state := .blocked, grants := .const 0, setpoints := .const 0, totalDemand := 0 }
         else s.dsp)).withNtc ntc := by
  unfold enterUncertain
  dsimp only
  obtain ⟨n, h⟩ := raiseIf_eq (s.trk.row.any fun b => b.estimate == .tracked) .untracked
    (raise .trackUncertain (s.withTrk
          { s.trk with
            row := s.trk.row.map fun b => { b with estimate := .untracked }
            state := .uncertain
            timer := none }))
  rw [h, dispatcherBlocks_spec]
  exact ⟨n, rfl⟩

end Sys2Proof.Machine
end

section
/-! PROOFS. The gate front under every step: its phase, its timers, the exit measurement, the verdicts of the gate
and the reservation (R97 to R101, R110). -/

namespace Sys2Proof.Machine

/-! ### The relation, case by case of the front phase -/

/-- A record behind the gate front is PENDING and not timed (R17). -/
def Waits (gate : List GateBillet) : Prop := ∀ g ∈ gate, g.verdict = .pending ∧ g.frontTime = none

/-- What `GateTimed` says, by the front phase. -/
inductive FrontOk : VerdictUnit → List GateBillet → Option Reservation → Prop
  | noFront : FrontOk emptyGate [] none
  | settling (ms : Nat) (g : GateBillet) (rest : List GateBillet) (hv : g.verdict = .pending)
      (ht : g.frontTime = some ms) (hr : Waits rest) : FrontOk (timedFront ms) (g :: rest) none
  | awaiting (ms : Nat) (g : GateBillet) (rest : List GateBillet) (hv : g.verdict = .pending)
      (ht : g.frontTime = some ms) (hr : Waits rest) :
      FrontOk { phase := .awaiting, settle := none, wait := some (ms + 1000), exitM := none } (g :: rest)
        none
  | decided (ms : Nat) (exitM : Option Nat) (g : GateBillet) (rest : List GateBillet)
      (phu : Option Reservation) (hv : g.verdict ≠ .pending) (ht : g.frontTime = some ms)
      (hr : Waits rest) (hp : ∀ r ∈ phu, g.billet.tag = r.tag ∧ g.verdict = .ready) :
      FrontOk { phase := .decided, settle := none, wait := none, exitM := exitM } (g :: rest) phu

theorem gateTimed_of_frontOk {s : State} (h : FrontOk s.evu s.trk.gate s.phu) : GateTimed s := by
  unfold GateTimed frontVerdict gateFront
  generalize s.evu = evu at h ⊢
  generalize s.trk.gate = gate at h ⊢
  generalize s.phu = phu at h ⊢
  cases h with
  | noFront => simp [emptyGate]
  | settling ms g rest hv ht hr => simpa [timedFront, hv, ht, Waits] using hr
  | awaiting ms g rest hv ht hr => simpa [hv, ht, Waits] using hr
  | decided ms exitM g rest _ hv ht hr hp =>
    simpa [hv, ht, Waits] using And.intro hr hp

theorem frontOk_of_gateTimed {s : State} (h : GateTimed s) : FrontOk s.evu s.trk.gate s.phu := by
  obtain ⟨hno, hpend, hsettle, hwait, htime, hs, hw, hexit, hrest, hphu⟩ := h
  unfold frontVerdict gateFront at *
  generalize s.evu = evu at *
  generalize s.trk.gate = gate at *
  generalize s.phu = phu at *
  obtain ⟨phase, settle, wait, exitM⟩ := evu
  cases gate with
  | nil =>
    have hphase : phase = .noFront := hno.2 rfl
    subst hphase
    have h1 : settle = none := by simpa using hsettle
    have h2 : wait = none := by simpa using hwait
    have h3 : exitM = none := hexit (by simp)
    have h4 : phu = none := by
      cases phu with
      | none => rfl
      | some r => simpa using hphu r rfl
    subst h1 h2 h3 h4
    exact .noFront
  | cons g rest =>
    obtain ⟨ms, hms⟩ := Option.isSome_iff_exists.1 (htime g rfl)
    simp only [List.head?_cons, Option.map_some, Option.some.injEq, Option.bind_some, hms]
      at hno hpend hsettle hwait hs hw hexit hrest hphu
    have hnores : g.verdict = .pending → phu = none := fun hv => by
      cases phu with
      | none => rfl
      | some r =>
        obtain ⟨g', rfl, -, hr⟩ := hphu r rfl
        simp [hv] at hr
    cases phase with
    | noFront => simp at hno
    | settling =>
      have hv : g.verdict = .pending := hpend.1 (.inl rfl)
      obtain ⟨e, rfl⟩ := Option.isSome_iff_exists.1 (hsettle.2 rfl)
      obtain ⟨f, rfl⟩ := Option.isSome_iff_exists.1 (hwait.2 (.inl rfl))
      obtain rfl := hs e rfl
      obtain rfl := hw f rfl
      obtain rfl := hexit (by simp)
      obtain rfl := hnores hv
      exact .settling ms g rest hv hms hrest
    | awaiting =>
      have hv : g.verdict = .pending := hpend.1 (.inr rfl)
      have h1 : settle = none := by simpa using hsettle
      obtain ⟨f, rfl⟩ := Option.isSome_iff_exists.1 (hwait.2 (.inr rfl))
      obtain rfl := hw f rfl
      obtain rfl := hexit (by simp)
      obtain rfl := hnores hv
      subst h1
      exact .awaiting ms g rest hv hms hrest
    | decided =>
      have hv : g.verdict ≠ .pending := fun hv => by simpa using hpend.2 hv
      have h1 : settle = none := by simpa using hsettle
      have h2 : wait = none := by simpa using hwait
      subst h1 h2
      refine .decided ms exitM g rest phu hv hms hrest fun r hr => ?_
      obtain ⟨g', rfl, h⟩ := hphu r hr
      exact h

/-! ### Changes of the gate and of the reservation -/

/-- What EVU and PHU read of a gate record: its tag, its verdict and its gate-front time. -/
def SameFace (g h : GateBillet) : Prop :=
  h.billet.tag = g.billet.tag ∧ h.verdict = g.verdict ∧ h.frontTime = g.frontTime

theorem SameFace.refl (g : GateBillet) : SameFace g g := ⟨rfl, rfl, rfl⟩

theorem sameFaces_refl (gate : List GateBillet) : List.Forall₂ SameFace gate gate :=
  List.forall₂_same.2 fun g _ => .refl g

theorem Waits.sameFaces {gate gate' : List GateBillet} (h : Waits gate)
    (hg : List.Forall₂ SameFace gate gate') : Waits gate' := fun g' hg' => by
  obtain ⟨g, hm, -, hv, ht⟩ := mem_of_forall₂ hg hg'
  rw [hv, ht]
  exact h g hm

theorem FrontOk.sameFaces {evu : VerdictUnit} {gate gate' : List GateBillet} {phu : Option Reservation}
    (h : FrontOk evu gate phu) (hg : List.Forall₂ SameFace gate gate') : FrontOk evu gate' phu := by
  cases h with
  | noFront =>
    cases hg
    exact .noFront
  | settling ms g rest hv ht hr =>
    cases hg with
    | cons hgg hrest => exact .settling ms _ _ (hgg.2.1.trans hv) (hgg.2.2.trans ht) (hr.sameFaces hrest)
  | awaiting ms g rest hv ht hr =>
    cases hg with
    | cons hgg hrest => exact .awaiting ms _ _ (hgg.2.1.trans hv) (hgg.2.2.trans ht) (hr.sameFaces hrest)
  | decided ms exitM g rest _ hv ht hr hp =>
    cases hg with
    | cons hgg hrest =>
      refine .decided ms exitM _ _ phu (hgg.2.1 ▸ hv) (hgg.2.2.trans ht) (hr.sameFaces hrest)
        fun r hm => ?_
      rw [hgg.1, hgg.2.1]
      exact hp r hm

theorem FrontOk.released {evu : VerdictUnit} {gate : List GateBillet} {phu : Option Reservation}
    (h : FrontOk evu gate phu) : FrontOk evu gate none := by
  cases h with
  | noFront => exact .noFront
  | settling ms g rest hv ht hr => exact .settling ms g rest hv ht hr
  | awaiting ms g rest hv ht hr => exact .awaiting ms g rest hv ht hr
  | decided ms exitM g rest _ hv ht hr hp =>
    exact .decided ms exitM g rest none hv ht hr fun _ h => (nomatch h)

/-- Records that come behind the front wait. -/
theorem FrontOk.appended {evu : VerdictUnit} {gate : List GateBillet} {phu : Option Reservation}
    (h : FrontOk evu gate phu) (hne : gate ≠ []) {more : List GateBillet} (hm : Waits more) :
    FrontOk evu (gate ++ more) phu := by
  have happ : ∀ {rest : List GateBillet}, Waits rest → Waits (rest ++ more) := fun hr g hg =>
    (List.mem_append.1 hg).elim (hr g) (hm g)
  cases h with
  | noFront => exact absurd rfl hne
  | settling ms g rest hv ht hr => exact .settling ms g _ hv ht (happ hr)
  | awaiting ms g rest hv ht hr => exact .awaiting ms g _ hv ht (happ hr)
  | decided ms exitM g rest _ hv ht hr hp => exact .decided ms exitM g _ phu hv ht (happ hr) hp

/-- The verdicts that the lines of R102 give are none of them PENDING. -/
theorem evaluate_ne_pending (f : RecipeFields) (b : Billet) (exitM : Option Nat) :
    evaluate f b exitM ≠ .pending := by
  have hw : windowTest f b.ts b.tc exitM ≠ .pending := by
    unfold windowTest
    dsimp only
    split
    · simp
    · split <;> simp
  have hm : ∀ m, measuredBand f m ≠ .pending := fun m => by
    unfold measuredBand
    split
    · simp
    · split <;> simp
  unfold evaluate
  repeat' split
  exacts [by simp, by simp, by simp, by simp, by simp, hm _, hw]

/-! ### The first verdict and re-evaluation -/

theorem setGateFront_cons {s : State} {g : GateBillet} {rest : List GateBillet} (h : GateBillet)
    (hg : s.trk.gate = g :: rest) : setGateFront h s = s.withTrk { s.trk with gate := h :: rest } := by
  unfold setGateFront
  rw [hg]

theorem gateFront_cons {s : State} {g : GateBillet} {rest : List GateBillet}
    (hg : s.trk.gate = g :: rest) : gateFront s = some g := by
  simp [gateFront, hg]

theorem decideFirst_cons {s : State} {g : GateBillet} {rest : List GateBillet}
    (hg : s.trk.gate = g :: rest) :
    decideFirst s =
      raise .verdict
        ((s.withTrk { s.trk with gate := { g with verdict := evaluateFront s g } :: rest }).withEvu
          { phase := .decided, settle := none, wait := none, exitM := s.evu.exitM }) := by
  unfold decideFirst
  rw [gateFront_cons hg]
  dsimp only
  rw [setGateFront_cons _ hg]

/-- A re-evaluated front holds another verdict at most, and a reservation of it is lost as it leaves READY
(R105, R106, R118). -/
theorem reevaluate_cases (s : State) :
    reevaluate s = s ∨ ∃ g rest n, s.trk.gate = g :: rest ∧ g.verdict.provisional = true ∧
      evaluateFront s g ≠ g.verdict ∧
      reevaluate s =
        (((s.withTrk { s.trk with gate := { g with verdict := evaluateFront s g } :: rest }).withPhu
          (if LosesReservation g (evaluateFront s g) s then none else s.phu)).withNtc n) ∧
      Raises (verdictKinds g (evaluateFront s g) s) s.ntc n := by
  unfold reevaluate
  split
  · exact .inl rfl
  · rename_i g hg
    split
    · rename_i hp
      split
      · exact .inl rfl
      · rename_i hv
        have hgate := gateFront_eq_some hg
        obtain ⟨n, hn, hr⟩ := frontLeftReady_eq g.billet.tag
          (raise .verdict (setGateFront { g with verdict := evaluateFront s g } s))
        have hraise := (raise_spec .verdict (setGateFront { g with verdict := evaluateFront s g } s)).1
        rw [setGateFront_cons _ hgate] at hn hr hraise
        unfold changeVerdict
        dsimp only
        rw [setGateFront_cons _ hgate]
        have hkind : kindIf (evaluateFront s g ≠ g.verdict) .verdict = Notice.verdict.bit := if_pos hv
        split
        · rename_i hready
          have hiff : LosesReservation g (evaluateFront s g) s ↔
              s.phu.map (·.tag) = some g.billet.tag :=
            ⟨fun h => h.2.2, fun h => ⟨hready, fun he => hv (he.trans hready.symm), h⟩⟩
          refine .inr ⟨g, _, n, hgate, hp, hv, ?_, ?_⟩
          · rw [hn]
            simp only [hiff]
            rfl
          · have h := hraise.trans hr
            unfold verdictKinds
            rw [hkind]
            unfold kindIf at h ⊢
            simp only [hiff]
            exact h
        · rename_i hready
          have hno : ¬LosesReservation g (evaluateFront s g) s := fun h => hready h.1
          refine .inr ⟨g, _, s.ntc.map (Notices.add .verdict), hgate, hp, hv, ?_, ?_⟩
          · rw [if_neg hno]
            rfl
          · unfold verdictKinds
            rw [hkind]
            unfold kindIf
            rw [if_neg hno, show Notice.verdict.bit ||| 0 = Notice.verdict.bit from rfl]
            exact hraise
    · exact .inl rfl

theorem reevaluate_frontOk {s : State} (h : FrontOk s.evu s.trk.gate s.phu) :
    FrontOk (reevaluate s).evu (reevaluate s).trk.gate (reevaluate s).phu := by
  obtain hr | ⟨g, rest, n, hg, hp, hv, hr, -⟩ := reevaluate_cases s
  · rwa [hr]
  · rw [hr]
    show FrontOk s.evu ({ g with verdict := evaluateFront s g } :: rest)
      (if LosesReservation g (evaluateFront s g) s then none else s.phu)
    rw [hg] at h
    have hne : g.verdict ≠ .pending := fun he => by simp [he, Verdict.provisional] at hp
    obtain ⟨phu, hphu⟩ : ∃ phu, s.phu = phu := ⟨_, rfl⟩
    rw [hphu] at h
    generalize s.evu = evu at h ⊢
    cases h with
    | settling _ _ _ hv' => exact absurd hv' hne
    | awaiting _ _ _ hv' => exact absurd hv' hne
    | decided ms exitM _ _ _ hv' ht hw hres =>
      refine .decided ms exitM _ rest _ (evaluate_ne_pending _ _ _) ht hw fun r hm => ?_
      split at hm
      · cases hm
      · rename_i hno
        obtain ⟨h1, h2⟩ := hres r (hphu ▸ hm)
        refine absurd ⟨h2, fun he => hv (he.trans h2.symm), ?_⟩ hno
        rw [Option.mem_def.1 hm, Option.map_some, h1]

theorem decideFirst_frontOk {s : State}
    (h : ∃ evu, evu.phase = .awaiting ∧ FrontOk evu s.trk.gate s.phu) :
    FrontOk (decideFirst s).evu (decideFirst s).trk.gate (decideFirst s).phu := by
  obtain ⟨evu, he, h⟩ := h
  generalize hgate : s.trk.gate = gate at h
  generalize hphu : s.phu = phu at h
  cases h with
  | noFront => cases he
  | settling => cases he
  | awaiting ms g rest hv ht hr =>
    rw [decideFirst_cons hgate]
    show FrontOk _ _ s.phu
    rw [hphu]
    exact .decided ms _ _ rest none (evaluate_ne_pending _ _ _) ht hr fun _ h => (nomatch h)
  | decided => cases he

theorem noteExit_eq (m : Option Nat) (s : State) :
    noteExit m s = s.withEvu { s.evu with exitM := m.or s.evu.exitM } := by
  cases m with
  | none => exact (State.withEvu_self s).symm
  | some v => rfl

theorem afterExit_frontOk {s : State} (m : Option Nat) (h : FrontOk s.evu s.trk.gate s.phu) :
    FrontOk (afterExit m s).evu (afterExit m s).trk.gate (afterExit m s).phu := by
  unfold afterExit
  split
  · exact h
  · exact h
  · rename_i ha
    rw [noteExit_eq]
    exact decideFirst_frontOk ⟨s.evu, ha, h⟩
  · rename_i hd
    split
    · refine reevaluate_frontOk ?_
      rw [noteExit_eq]
      show FrontOk { s.evu with exitM := m.or s.evu.exitM } s.trk.gate s.phu
      generalize s.evu = evu at h hd
      generalize s.trk.gate = gate at h
      generalize s.phu = phu at h
      cases h with
      | noFront => cases hd
      | settling => cases hd
      | awaiting => cases hd
      | decided ms exitM g rest _ hv ht hr hp => exact .decided ms _ g rest _ hv ht hr hp
    · exact h

theorem correctFront_eq (m : Option Nat) (s : State) :
    ∃ gate, correctFront m s = s.withTrk { s.trk with gate := gate } ∧
      List.Forall₂ SameFace s.trk.gate gate := by
  unfold correctFront
  split
  · exact ⟨s.trk.gate, (State.withTrk_self s).symm, sameFaces_refl _⟩
  · rename_i g hg
    have hgate := gateFront_eq_some hg
    rw [setGateFront_cons _ hgate]
    refine ⟨_, rfl, ?_⟩
    rw [hgate]
    exact .cons ⟨rfl, rfl, rfl⟩ (sameFaces_refl _)

theorem correctFront_frontOk {s : State} (m : Option Nat) (h : FrontOk s.evu s.trk.gate s.phu) :
    FrontOk (correctFront m s).evu (correctFront m s).trk.gate (correctFront m s).phu := by
  obtain ⟨gate, he, hg⟩ := correctFront_eq m s
  rw [he]
  exact h.sameFaces hg

theorem exitSample_frontOk {s : State} (m : Option Nat) (h : FrontOk s.evu s.trk.gate s.phu) :
    FrontOk (exitSample m s).evu (exitSample m s).trk.gate (exitSample m s).phu := by
  unfold exitSample
  split
  · exact h
  · exact h
  · exact afterExit_frontOk m (correctFront_frontOk m h)
  · exact afterExit_frontOk m (correctFront_frontOk m h)

theorem takeSample_frontOk {s : State} (src : Pyro) (v : Nat) (h : FrontOk s.evu s.trk.gate s.phu) :
    FrontOk (takeSample src v s).evu (takeSample src v s).trk.gate (takeSample src v s).phu := by
  cases src with
  | a =>
    obtain ⟨est, he⟩ : ∃ est, rowSample (judged v)
        (s.withPya { frame := [], lastSample := some { value := v, valid := (judged v).isSome } }) =
        (s.withPya { frame := [], lastSample := some { value := v, valid := (judged v).isSome } }).withEst
          est := by
      unfold rowSample
      split
      · exact ⟨_, (State.withEst_self _).symm⟩
      · exact ⟨_, (State.withEst_self _).symm⟩
      · exact ⟨_, rfl⟩
    show FrontOk (rowSample _ _).evu (rowSample _ _).trk.gate (rowSample _ _).phu
    unfold setPyro
    rw [he]
    exact h
  | b => exact exitSample_frontOk (s := s.withPyb _) (judged v) h

theorem receiveSample_frontOk {s : State} (src : Pyro) (bytes : List Byte)
    (h : FrontOk s.evu s.trk.gate s.phu) :
    FrontOk (receiveSample src bytes s).evu (receiveSample src bytes s).trk.gate
      (receiveSample src bytes s).phu := by
  have hset : ∀ (t : State) v, FrontOk t.evu t.trk.gate t.phu →
      FrontOk (setPyro src v t).evu (setPyro src v t).trk.gate (setPyro src v t).phu := fun t v ht => by
    cases src <;> exact ht
  unfold receiveSample
  induction bytes generalizing s with
  | nil => exact h
  | cons b rest ih =>
    refine ih ?_
    rw [receiveSampleByte_spec]
    split
    · exact h
    · split
      · exact hset s _ h
      · split
        · exact takeSample_frontOk src _ h
        · exact hset s _ h

theorem takeRound_frontOk {s : State} (r : RoundRecord) (h : FrontOk s.evu s.trk.gate s.phu) :
    FrontOk (takeRound r s).evu (takeRound r s).trk.gate (takeRound r s).phu := by
  have hevu : (updateRecords r s).evu = s.evu ∧ (updateRecords r s).phu = s.phu := by
    unfold updateRecords
    dsimp only
    rw [(raiseIf_onlyIlc ..).evu, (raiseIf_onlyIlc ..).evu, (raiseIf_onlyIlc ..).evu,
      (raiseIf_onlyIlc ..).phu, (raiseIf_onlyIlc ..).phu, (raiseIf_onlyIlc ..).phu]
    exact ⟨rfl, rfl⟩
  refine reevaluate_frontOk ?_
  rw [hevu.1, hevu.2, updateRecords_trk]
  exact h.sameFaces (forall₂_map_right (R := SameFace) (f := updateGateBillet s (roundInterval s))
    (fun g => ⟨rfl, rfl, rfl⟩) _)

theorem applyCorrection_frontOk {s : State} (c : Correction) (h : FrontOk s.evu s.trk.gate s.phu) :
    FrontOk (applyCorrection c s).evu (applyCorrection c s).trk.gate (applyCorrection c s).phu := by
  refine h.sameFaces (forall₂_map_right (R := SameFace) (fun g => ?_) _)
  split <;> exact ⟨rfl, rfl, rfl⟩

theorem takeCorrection_frontOk {s : State} (c : Correction) (h : FrontOk s.evu s.trk.gate s.phu) :
    FrontOk (takeCorrection c s).evu (takeCorrection c s).trk.gate (takeCorrection c s).phu := by
  have h' := applyCorrection_frontOk c h
  unfold takeCorrection
  dsimp only
  split
  · exact h'
  · split
    · exact afterExit_frontOk _ h'
    · exact h'

theorem settleExpires_frontOk {s : State} (h : FrontOk s.evu s.trk.gate s.phu) :
    FrontOk (settleExpires s).evu (settleExpires s).trk.gate (settleExpires s).phu := by
  unfold settleExpires
  generalize hevu : s.evu = evu at h
  generalize hgate : s.trk.gate = gate at h
  generalize hphu : s.phu = phu at h
  split
  · rw [hevu, hgate, hphu]; exact h
  · cases h with
    | noFront => simp [emptyGate, hgate, hphu]; exact .noFront
    | settling ms g rest hv ht hr => simp [timedFront, hgate, hphu]; exact .awaiting ms g rest hv ht hr
    | awaiting ms g rest hv ht hr => simp [hgate, hphu]; exact .awaiting ms g rest hv ht hr
    | decided ms exitM g rest _ hv ht hr hp =>
      simp [hgate, hphu]
      exact .decided ms exitM g rest _ hv ht hr hp

theorem waitExpires_frontOk {s : State} (h : FrontOk s.evu s.trk.gate s.phu) :
    FrontOk (waitExpires s).evu (waitExpires s).trk.gate (waitExpires s).phu := by
  unfold waitExpires
  split
  · exact h
  · split
    · rename_i ha
      exact decideFirst_frontOk ⟨s.evu, ha, h⟩
    · exact h
    · rename_i hp
      show FrontOk { s.evu with wait := none } s.trk.gate s.phu
      generalize s.evu = evu at h hp
      generalize s.trk.gate = gate at h
      generalize s.phu = phu at h
      cases h with
      | noFront => exact .noFront
      | settling => cases hp
      | awaiting => cases hp
      | decided => cases hp
    · rename_i hp
      show FrontOk { s.evu with wait := none } s.trk.gate s.phu
      generalize s.evu = evu at h hp
      generalize s.trk.gate = gate at h
      generalize s.phu = phu at h
      cases h with
      | noFront => cases hp
      | settling => cases hp
      | awaiting => cases hp
      | decided ms exitM g rest _ hv ht hr hres => exact .decided ms exitM g rest _ hv ht hr hres

/-! ### Pushes and the removal at the gate -/

theorem waits_map_toGate (bs : List Billet) : Waits (bs.map toGate) := fun g hg => by
  obtain ⟨b, -, rfl⟩ := List.mem_map.1 hg
  exact ⟨rfl, rfl⟩

theorem pushApplied_frontOk {s u : State} {p : PendingPush} {est : EstimateState}
    (h : FrontOk s.evu s.trk.gate s.phu) (hu : PushApplied p est s u) (hphu : u.phu = s.phu) :
    FrontOk u.evu u.trk.gate u.phu := by
  obtain ⟨htrk, hevu, -⟩ := hu
  rw [htrk, hevu, hphu]
  show FrontOk _ (arrivedGate s.ms s.trk.gate (leaving s p.length)) _
  generalize s.evu = evu at h
  generalize s.trk.gate = gate at h
  generalize s.phu = phu at h
  cases gate with
  | nil =>
    cases h
    cases leaving s p.length with
    | nil => exact .noFront
    | cons b rest => exact .settling s.ms _ _ rfl rfl (waits_map_toGate rest)
  | cons g rest =>
    rw [if_neg (by simp)]
    exact h.appended (by simp) (waits_map_toGate _)

theorem handedOver_frontOk {s u : State} {count : Lot → Lot} {g : GateBillet} {rest : List GateBillet}
    (h : FrontOk s.evu s.trk.gate s.phu) (hg : s.trk.gate = g :: rest) (hu : HandedOver count g s u) :
    FrontOk u.evu u.trk.gate u.phu := by
  obtain ⟨htrk, hevu, hphu, -⟩ := hu
  rw [htrk, hevu, hphu]
  show FrontOk _ (advancedGate s.ms s.trk.gate) none
  rw [hg] at h ⊢
  have hw : Waits rest := by
    generalize s.evu = evu at h
    generalize s.phu = phu at h
    cases h <;> assumption
  cases rest with
  | nil => exact .noFront
  | cons g' rest =>
    exact .settling s.ms _ rest (hw g' (by simp)).1 rfl fun x hx => hw x (by simp [hx])

/-! ### Every act -/

theorem dispatchExpires_frontOk {s : State} (h : FrontOk s.evu s.trk.gate s.phu) :
    FrontOk (dispatchExpires s).evu (dispatchExpires s).trk.gate (dispatchExpires s).phu := by
  have hf := dispatchExpires_onlyDispatch s
  have hgate : List.Forall₂ SameFace s.trk.gate (dispatchExpires s).trk.gate := by
    have h1 : (inferIdle (applyCadence s)).trk = s.trk := by
      obtain ⟨d, hd⟩ := applyCadence_eq s
      obtain ⟨e, he⟩ := inferIdle_eq (applyCadence s)
      rw [he, hd]
      rfl
    have h2 : (dispatchExpires s).trk = (computeGrants (inferIdle (applyCadence s))).trk :=
      (handSet_onlyIlc _ _).trk
    obtain ⟨d, hd⟩ := computeGrants_eq (inferIdle (applyCadence s))
    rw [h2, hd, State.withDsp_trk, ← h1]
    have hmarks : ∀ gate : List GateBillet, List.Forall₂ SameFace gate (gate.map fun g =>
        { g with billet := { g.billet with marks := { g.billet.marks with guarded := false } } }) :=
      forall₂_map_right (R := SameFace) fun g => ⟨rfl, rfl, rfl⟩
    split
    · exact hmarks _
    · exact hmarks _
  rw [hf.evu, hf.phu]
  exact h.sameFaces hgate

theorem Act.frontOk {i : Instr} {s u : State} (ha : Act i s u) (h : FrontOk s.evu s.trk.gate s.phu) :
    FrontOk u.evu u.trk.gate u.phu := by
  cases ha with
  | same => exact h
  | linkErrors => exact h
  | loses =>
    obtain ⟨n, hn⟩ := loseReservation_eq s
    rw [hn]
    exact h.released
  | noticeRead => exact h
  | noticeClear => exact h
  | noticeMask => exact h
  | deposit st x _ a =>
    obtain ⟨zones, pst, he⟩ := storeField_eq a (fitField s a x.value) s
    rw [he]
    exact h
  | loadRecipe => exact h
  | pushRequest => exact h
  | pushDone st x _ p =>
    exact pushApplied_frontOk h (applyPush_spec p .tracked s).1 (by
      obtain ⟨_, _, _, he⟩ := applyPush_eq p .tracked s
      rw [he]
      rfl)
  | slips =>
    obtain ⟨n, he⟩ := enterUncertain_eq s
    rw [he]
    exact h
  | pushCancel =>
    obtain ⟨l, n, he⟩ := dropPush_eq s
    rw [he]
    exact h
  | pushTimerStops => exact h
  | resyncNotApplied =>
    unfold Machine.resyncNotApplied
    obtain ⟨l, n, he⟩ :=
      dropPush_eq (s.withTrk { s.trk with generation := nextGeneration s.trk.generation })
    rw [dispatcherUnblocks_spec, he]
    exact h
  | resyncApplied st _ p =>
    rw [dispatcherUnblocks_spec]
    exact pushApplied_frontOk h (applyPush_spec p .untracked s).1 (by
      obtain ⟨_, _, _, he⟩ := applyPush_eq p .untracked s
      rw [he]
      rfl)
  | purge =>
    have hp := purgeTrack_spec s
    rw [hp.evu, hp.phu, hp.trk]
    exact .noFront
  | reserve _ _ g hg hv =>
    have hgate := gateFront_eq_some hg
    show FrontOk s.evu s.trk.gate (some _)
    rw [hgate] at h ⊢
    generalize s.evu = evu at h ⊢
    generalize s.phu = phu at h
    cases h with
    | settling _ _ _ hp => rw [hv] at hp; cases hp
    | awaiting _ _ _ hp => rw [hv] at hp; cases hp
    | decided ms exitM _ _ _ hne ht hr _ =>
      refine .decided ms exitM g _ _ hne ht hr fun r hm => ?_
      cases hm
      exact ⟨rfl, hv⟩
  | take st tag _ g hst h0 hr hg =>
    exact handedOver_frontOk h (gateFront_eq_some hg) (handOver_spec _ g _ s (gateFront_eq_some hg))
  | discard st tag _ g hst hg =>
    exact handedOver_frontOk h (gateFront_eq_some hg) (handOver_spec _ g _ s (gateFront_eq_some hg))
  | cadence => exact h
  | run => exact h
  | stop => exact h
  | zoneRestore => exact h
  | lotOpen => exact h
  | newestLoad _ n =>
    obtain ⟨l, ntc, he⟩ := setNewestLoad_eq n s
    rw [he]
    exact h
  | permitLost =>
    exact dispatchExpires_frontOk
      (s := makeExpiryDue (raise .permitOff (haltHeating .stopped (s.withPermit false)))) h
  | permitPresent => exact h
  | dispatchExpiry => exact dispatchExpires_frontOk h
  | inverterReply _ r =>
    have hf := takeReply_onlyIlc r s
    rw [hf.evu, hf.trk, hf.phu]
    exact h
  | windowCloses =>
    have hf := closeWindow_onlyIlc s
    rw [hf.evu, hf.trk, hf.phu]
    exact h
  | round _ r => exact takeRound_frontOk r h
  | correction _ c => exact takeCorrection_frontOk c h
  | samples _ src bytes => exact receiveSample_frontOk src bytes h
  | hunts _ src => cases src <;> exact h
  | settles => exact settleExpires_frontOk h
  | waits => exact waitExpires_frontOk h

theorem reset_gateTimed : GateTimed State.reset := gateTimed_of_frontOk .noFront

/-- Settles O56: the relation is `FrontOk`, a case for each front phase, which every act keeps. -/
theorem stepKeepsGateTimed : Obligations.StepKeepsGateTimed := fun _ _ h hs =>
  step_keeps (P := GateTimed) (fun _ _ _ => id) (fun _ _ => id)
    (fun _ _ _ hi => exec_keeps (fun _ _ => reset_gateTimed) (fun _ _ => id)
      (fun _ _ _ ha hg => gateTimed_of_frontOk (ha.frontOk (frontOk_of_gateTimed hg))) hi) h hs

end Sys2Proof.Machine
end

section
/-! PROOFS. The dispatcher and the zones under every step (R52, R53, R57, R74, R80, R84, R87). -/

namespace Sys2Proof.Machine

/-! ### The dispatcher -/

/-- What `DispatcherSafe` says of a level of PERMIT, a track state and a dispatcher. -/
structure DispatcherOk (permit : Bool) (track : TrackState) (d : Dispatcher) : Prop where
  run : d.state = .run → permit = true ∧ track ≠ .uncertain
  blocked : d.state = .blocked → permit = true ∧ track = .uncertain
  halted : d.state ≠ .run → d.grants = .const 0 ∧ d.setpoints = .const 0 ∧ d.totalDemand = 0
  inferred : d.inferred = true → d.cadence ≠ .hold
  cycle : ∀ c, d.cadence = .running c → 2000 ≤ c ∧ c ≤ 120000
  pending : ∀ v ∈ d.pendingCadence, v = 0 ∨ (20 ≤ v ∧ v ≤ 1200)

theorem dispatcherSafe_iff (s : State) :
    DispatcherSafe s ↔ DispatcherOk s.permit s.trk.state s.dsp :=
  ⟨fun ⟨h1, h2, h3, h4, h5, h6⟩ => ⟨h1, h2, h3, h4, h5, h6⟩, fun h =>
    ⟨h.run, h.blocked, h.halted, h.inferred, h.cycle, h.pending⟩⟩

namespace DispatcherOk
variable {permit : Bool} {track track' : TrackState} {d : Dispatcher}

theorem certain (h : DispatcherOk permit track d) (ht : track ≠ .uncertain) (ht' : track' ≠ .uncertain) :
    DispatcherOk permit track' d :=
  { h with
    run := fun hr => ⟨(h.run hr).1, ht'⟩
    blocked := fun hb => absurd (h.blocked hb).2 ht }

theorem permitted (h : DispatcherOk permit track d) : DispatcherOk true track d :=
  { h with run := fun hr => ⟨rfl, (h.run hr).2⟩, blocked := fun hb => ⟨rfl, (h.blocked hb).2⟩ }

/-- A stopped dispatcher holds zeros whatever the level and the track. -/
theorem stopped (h : DispatcherOk permit track d) (permit' : Bool) (track' : TrackState) :
    DispatcherOk permit' track'
      { d with state := .stopped, grants := .const 0, setpoints := .const 0, totalDemand := 0 } :=
  ⟨fun hr => (nomatch hr), fun hb => (nomatch hb), fun _ => ⟨rfl, rfl, rfl⟩, h.inferred, h.cycle, h.pending⟩

theorem blocks (h : DispatcherOk permit track d) (ht : track ≠ .uncertain) :
    DispatcherOk permit .uncertain
      (if d.state = .run then
        { d with state := .blocked, grants := .const 0, setpoints := .const 0, totalDemand := 0 }
       else d) := by
  split
  · rename_i hr
    exact ⟨fun h' => (nomatch h'), fun _ => ⟨(h.run hr).1, rfl⟩, fun _ => ⟨rfl, rfl, rfl⟩, h.inferred,
      h.cycle, h.pending⟩
  · rename_i hr
    exact { h with run := fun h' => absurd h' hr, blocked := fun hb => absurd (h.blocked hb).2 ht }

theorem unblocks (h : DispatcherOk permit .uncertain d) (ht : track ≠ .uncertain) :
    DispatcherOk permit track (if d.state = .blocked ∧ permit = true then { d with state := .run } else d) := by
  split
  · rename_i hb
    exact ⟨fun _ => ⟨hb.2, ht⟩, fun h' => (nomatch h'), fun h' => absurd rfl h', h.inferred, h.cycle,
      h.pending⟩
  · rename_i hb
    exact
      { h with
        run := fun hr => absurd rfl (h.run hr).2
        blocked := fun h' => absurd ⟨h', (h.blocked h').1⟩ hb }

theorem handover (h : DispatcherOk permit track d) (ms : Nat) :
    DispatcherOk permit track { d with lastHandover := ms, inferred := false } :=
  { h with inferred := fun hi => (nomatch hi) }

end DispatcherOk

theorem storedCadence_range (v : Nat) : storedCadence v = 0 ∨ (20 ≤ storedCadence v ∧ storedCadence v ≤ 1200) := by
  unfold storedCadence clamp
  split
  · exact .inl rfl
  · exact .inr (by omega)

theorem runRefusal_none {s : State} (h : runRefusal s = none) :
    s.permit = true ∧ s.pst.budget ≠ 0 ∧ s.trk.state ≠ .uncertain := by
  unfold runRefusal at h
  split at h
  · cases h
  · rename_i hp
    split at h
    · cases h
    · rename_i hb
      split at h
      · cases h
      · exact ⟨by simpa using hp, hb, ‹_›⟩

/-! ### An expiry of the dispatch timer -/

theorem applyCadence_dispatcherOk {permit : Bool} {track : TrackState} {s : State}
    (h : DispatcherOk permit track s.dsp) : DispatcherOk permit track (applyCadence s).dsp := by
  unfold applyCadence
  split
  · exact h
  · rename_i v hv
    have hrange := h.pending v hv
    refine ⟨h.run, h.blocked, h.halted, fun hi => (nomatch hi), fun c hc => ?_, fun _ hp => (nomatch hp)⟩
    simp only [State.withDsp_dsp] at hc
    split at hc
    · cases hc
    · cases hc
      omega

theorem inferIdle_dispatcherOk {permit : Bool} {track : TrackState} {s : State}
    (h : DispatcherOk permit track s.dsp) : DispatcherOk permit track (inferIdle s).dsp := by
  unfold inferIdle
  split
  · rename_i hp
    refine { h with inferred := fun _ hc => ?_ }
    simp only [State.withDsp_dsp] at hc
    simp [pressIdle, hc] at hp
  · exact h

theorem computeGrants_dispatcherOk {permit : Bool} {track : TrackState} {s : State}
    (h : DispatcherOk permit track s.dsp) : DispatcherOk permit track (computeGrants s).dsp := by
  unfold computeGrants
  split
  · rename_i hr
    exact { h with halted := fun hn => absurd hr hn }
  · exact h.stopped permit track
  · rename_i hb
    refine ⟨fun h' => (nomatch h'), fun _ => h.blocked hb, fun _ => ⟨rfl, rfl, rfl⟩, h.inferred, h.cycle,
      h.pending⟩

/-- What an expiry hands over changes DSP no more; the timer starts again (R58, R59). -/
theorem dispatchExpires_dsp (s : State) :
    (dispatchExpires s).dsp =
      { (computeGrants (inferIdle (applyCadence s))).dsp with
        timerInterval := s.pst.period, timerExpiry := s.ms + s.pst.period } := by
  have hc := ((applyCadence_onlyDispatch s).trans (inferIdle_onlyDispatch _)).trans
    (computeGrants_onlyDispatch _)
  have hh : ∀ d t, (handSet d t).dsp = t.dsp := fun d t => (handSet_onlyIlc d t).dsp
  have hm : ∀ d t, (handSet d t).ms = t.ms := fun d t => (handSet_onlyIlc d t).ms
  have hp : ∀ d t, (handSet d t).pst = t.pst := fun d t => (handSet_onlyIlc d t).pst
  unfold dispatchExpires restartTimer handGrants
  rw [State.withDsp_dsp, hh, hm, hp, hc.pst, hc.ms]

theorem dispatchExpires_dispatcherOk {permit : Bool} {track : TrackState} {s : State}
    (h : DispatcherOk permit track s.dsp) : DispatcherOk permit track (dispatchExpires s).dsp := by
  rw [dispatchExpires_dsp]
  exact { computeGrants_dispatcherOk (inferIdle_dispatcherOk (applyCadence_dispatcherOk h)) with }

/-! ### Every act, for the dispatcher -/

theorem OnlyVerdict.dispatcherSafe {s u : State} (h : OnlyVerdict s u) (ht : s.trk.InPlace u.trk)
    (hs : DispatcherOk s.permit s.trk.state s.dsp) : DispatcherOk u.permit u.trk.state u.dsp := by
  rw [h.permit, h.dsp, ht.state]
  exact hs

theorem OnlyIlc.dispatcherSafe {s u : State} (h : OnlyIlc s u)
    (hs : DispatcherOk s.permit s.trk.state s.dsp) : DispatcherOk u.permit u.trk.state u.dsp := by
  rw [h.permit, h.dsp, h.trk]
  exact hs

theorem handOver_dispatcherOk {s : State} {count : Lot → Lot} {g : GateBillet} (hg : gateFront s = some g)
    (h : DispatcherOk s.permit s.trk.state s.dsp) :
    DispatcherOk (handOver count g.billet s).permit (handOver count g.billet s).trk.state
      (handOver count g.billet s).dsp := by
  obtain ⟨ht, -, -, hd, -, hrest⟩ := handOver_spec count g _ s (gateFront_eq_some hg)
  have hp : (handOver count g.billet s).permit = s.permit := by simpa using congrArg State.permit hrest
  rw [ht, hd, hp]
  exact h.handover s.ms

theorem Act.dispatcherOk {i : Instr} {s u : State} (ha : Act i s u)
    (h : DispatcherOk s.permit s.trk.state s.dsp) : DispatcherOk u.permit u.trk.state u.dsp := by
  cases ha with
  | same => exact h
  | linkErrors => exact h
  | loses =>
    obtain ⟨n, hn⟩ := loseReservation_eq s
    rw [hn]
    exact h
  | noticeRead => exact h
  | noticeClear => exact h
  | noticeMask => exact h
  | deposit st x _ a =>
    obtain ⟨zones, pst, he⟩ := storeField_eq a (fitField s a x.value) s
    rw [he]
    exact h
  | loadRecipe => exact h
  | pushRequest st x _ lot hc =>
    obtain ⟨hidle, -⟩ := pushChecks_ok hc
    exact h.certain (by simp [hidle]) (by simp)
  | pushDone st x _ p _ hs =>
    obtain ⟨trk, evu, lot, he⟩ := applyPush_eq p .tracked s
    have ht := (applyPush_spec p .tracked s).1.1
    rw [ht, he]
    exact h.certain (by simp [hs]) (by simp)
  | slips _ _ hs =>
    obtain ⟨n, he⟩ := enterUncertain_eq s
    rw [he]
    exact h.blocks (by simp [hs])
  | pushCancel _ _ hs =>
    obtain ⟨l, n, he⟩ := dropPush_eq s
    rw [he]
    exact h.certain (by simp [hs]) (by simp)
  | pushTimerStops => exact h
  | resyncNotApplied st d _ _ _ hs =>
    unfold Machine.resyncNotApplied
    obtain ⟨l, n, he⟩ :=
      dropPush_eq (s.withTrk { s.trk with generation := nextGeneration s.trk.generation })
    rw [dispatcherUnblocks_spec, he]
    rw [hs] at h
    exact h.unblocks (by simp)
  | resyncApplied st _ p _ hs =>
    obtain ⟨trk, evu, lot, he⟩ := applyPush_eq p .untracked s
    have ht := (applyPush_spec p .untracked s).1.1
    rw [he] at ht
    rw [dispatcherUnblocks_spec, he]
    rw [hs] at h
    simp only [State.withDsp_trk]
    rw [ht]
    exact h.unblocks (by simp)
  | purge =>
    have hp := purgeTrack_spec s
    have hpermit : (purgeTrack s).permit = s.permit := by simpa using congrArg State.permit hp.rest
    rw [hp.trk, hp.dsp, hpermit]
    split
    · rename_i hs
      rw [hs] at h
      exact h.unblocks (by simp)
    · rename_i hs
      exact h.certain hs (by simp)
  | reserve => exact h
  | take _ _ _ _ _ _ _ hg => exact handOver_dispatcherOk hg h
  | discard _ _ _ _ _ hg => exact handOver_dispatcherOk hg h
  | cadence _ v =>
    exact { h with pending := fun w hw => by cases hw; exact storedCadence_range v }
  | run _ _ hr hc =>
    obtain ⟨hp, -, ht⟩ := runRefusal_none hc
    exact
      { h with
        run := fun _ => ⟨hp, ht⟩
        blocked := fun hb => (nomatch hb)
        halted := fun hn => absurd rfl hn }
  | stop => exact h.stopped _ _
  | zoneRestore => exact h
  | lotOpen => exact h
  | newestLoad _ n =>
    obtain ⟨l, ntc, he⟩ := setNewestLoad_eq n s
    rw [he]
    exact h
  | permitLost =>
    have hd := dispatchExpires_onlyDispatch
      (makeExpiryDue (raise .permitOff (haltHeating .stopped (s.withPermit false))))
    have ht := dispatchExpires_inPlace
      (makeExpiryDue (raise .permitOff (haltHeating .stopped (s.withPermit false))))
    rw [hd.permit, ht.state]
    exact dispatchExpires_dispatcherOk
      { h.stopped false s.trk.state with }
  | permitPresent => exact h.permitted
  | dispatchExpiry =>
    rw [(dispatchExpires_onlyDispatch s).permit, (dispatchExpires_inPlace s).state]
    exact dispatchExpires_dispatcherOk h
  | inverterReply _ r => exact (takeReply_onlyIlc r s).dispatcherSafe h
  | windowCloses => exact (closeWindow_onlyIlc s).dispatcherSafe h
  | round _ r => exact (takeRound_onlyFront r s).dispatcherSafe (takeRound_inPlace r s) h
  | correction _ c => exact (takeCorrection_onlyFront c s).dispatcherSafe (takeCorrection_inPlace c s) h
  | samples _ src bytes =>
    exact (receiveSample_onlyVerdict src bytes s).dispatcherSafe (receiveSample_inPlace src bytes s) h
  | hunts _ src => cases src <;> exact h
  | settles =>
    exact (settleExpires_onlyFront s).dispatcherSafe (.of_eq (settleExpires_trk s)) h
  | waits => exact (waitExpires_onlyFront s).dispatcherSafe (waitExpires_inPlace s) h

/-! ### The zones -/

/-- What `ZonesConsistent` says of one zone record. -/
structure ZoneOk (z : ZoneRecord) : Prop where
  disabled : z.state = .disabled ↔ ¬(z.enable = true ∧ z.rating.isSome)
  active : z.state = .active → z.missCount < 3
  misses : z.missCount ≤ 3
  lastGrant : z.lastGrant ≤ 800000
  rating : ∀ r ∈ z.rating, 10000 ≤ r ∧ r ≤ 800000

/-- What `ZonesConsistent` says, block by block. -/
structure PowerOk (s : State) : Prop where
  zones : ∀ z, ZoneOk (s.zones.get z)
  held : DispatchSet.inRange { setpoints := s.dsp.setpoints, grants := s.dsp.grants }
  waiting : ∀ d ∈ s.ilc.waiting, d.inRange
  round : ∀ r ∈ s.ilc.round, r.carried.inRange ∧ r.poll.setpoint ≤ 8000

theorem zonesConsistent_iff (s : State) : ZonesConsistent s ↔ PowerOk s :=
  ⟨fun ⟨h1, h2, h3, h4⟩ =>
    ⟨fun z => ⟨(h1 z).1, (h1 z).2.1, (h1 z).2.2.1, (h1 z).2.2.2.1, (h1 z).2.2.2.2⟩, h2, h3, h4⟩,
   fun h =>
    ⟨fun z => ⟨(h.zones z).disabled, (h.zones z).active, (h.zones z).misses, (h.zones z).lastGrant,
      (h.zones z).rating⟩, h.held, h.waiting, h.round⟩⟩

namespace ZoneOk
variable {z : ZoneRecord}

theorem miss (h : ZoneOk z) : ZoneOk z.miss := by
  refine ⟨?_, ?_, ?_, h.lastGrant, h.rating⟩
  · rw [ZoneRecord.miss, ← h.disabled]
    dsimp only
    split
    · rename_i hm
      simp [hm.2]
    · rfl
  · simp only [ZoneRecord.miss]
    split
    · exact fun h' => (nomatch h')
    · rename_i hm
      intro ha
      have hlt : ¬3 ≤ z.missCount + 1 := fun h3 => hm ⟨h3, ha⟩
      omega
  · simp only [ZoneRecord.miss]
    omega

theorem goodReply (h : ZoneOk z) (st : ChannelStatus) (mean : Nat) : ZoneOk (z.goodReply st mean) := by
  refine ⟨?_, fun _ => by simp [ZoneRecord.goodReply], by simp [ZoneRecord.goodReply], h.lastGrant, h.rating⟩
  rw [ZoneRecord.goodReply, ← h.disabled]
  dsimp only
  split
  · rename_i hm
    simp [hm.2]
  · rfl

theorem restored (h : ZoneOk z) : ZoneOk z.restored := by
  unfold ZoneRecord.restored
  split
  · rename_i hf
    exact
      { h with
        disabled := by rw [← h.disabled, hf]; simp
        active := fun _ => by simp
        misses := by simp }
  · exact h
  · exact h

theorem granted (h : ZoneOk z) {n : Nat} (hn : n ≤ 800000) : ZoneOk { z with lastGrant := n } :=
  { h with lastGrant := hn }

theorem lengthened (h : ZoneOk z) (n : Nat) : ZoneOk { z with length := n } := { h with }

theorem storeRating (h : ZoneOk z) {v : Nat} (hv : 10000 ≤ v ∧ v ≤ 800000) : ZoneOk (z.storeRating v) := by
  have hr : ∀ r ∈ some v, 10000 ≤ r ∧ r ≤ 800000 := fun r hm => by cases hm; exact hv
  unfold ZoneRecord.storeRating
  split
  · rename_i hd
    exact ⟨by simp [hd.2], fun _ => by simp, by simp, h.lastGrant, hr⟩
  · rename_i hd
    refine ⟨?_, h.active, h.misses, h.lastGrant, hr⟩
    have h1 := h.disabled
    simp only [Option.isSome_some, and_true]
    constructor
    · exact fun hs he => hd ⟨hs, he⟩
    · exact fun he => h1.2 fun hb => he hb.1

theorem storeEnable (h : ZoneOk z) (on : Bool) : ZoneOk (z.storeEnable on) := by
  unfold ZoneRecord.storeEnable
  split
  · refine ⟨?_, fun _ => by simp, by simp, h.lastGrant, h.rating⟩
    have h1 := h.disabled
    dsimp only
    split
    · cases z.rating <;> simp
    · rename_i ha
      rw [ha] at h1
      simp only [reduceCtorEq, false_iff, not_not] at h1
      simp [h1.2]
    · rename_i hf
      rw [hf] at h1
      simp only [reduceCtorEq, false_iff, not_not] at h1
      simp [h1.2]
  · exact ⟨by simp, fun h' => (nomatch h'), h.misses, h.lastGrant, h.rating⟩

theorem storeField (h : ZoneOk z) {field v : Nat} (hv : field = 1 → 10000 ≤ v ∧ v ≤ 800000) :
    ZoneOk (z.storeField field v) := by
  unfold ZoneRecord.storeField
  split
  · exact h.lengthened v
  · exact h.storeRating (hv rfl)
  · exact h.storeEnable _

end ZoneOk

/-! ### Sets, polls and rounds -/

namespace PowerOk
variable {s u : State}

theorem of_eq (h : PowerOk s) (hz : u.zones = s.zones) (hi : u.ilc = s.ilc)
    (hg : u.dsp.grants = s.dsp.grants) (hp : u.dsp.setpoints = s.dsp.setpoints) : PowerOk u :=
  ⟨by rw [hz]; exact h.zones, by rw [hg, hp]; exact h.held, by rw [hi]; exact h.waiting,
    by rw [hi]; exact h.round⟩

theorem raiseIf (h : PowerOk s) (b : Bool) (k : Notice) : PowerOk (raiseIf b k s) := by
  obtain ⟨n, he⟩ := raiseIf_eq b k s
  rw [he]
  exact h.of_eq rfl rfl rfl rfl

theorem set (h : PowerOk s) {z : ZoneNo} {r : ZoneRecord} (hz : u.zones = s.zones.set z r) (hr : ZoneOk r)
    (hi : u.ilc = s.ilc) (hd : u.dsp = s.dsp) : PowerOk u := by
  refine ⟨fun y => ?_, by rw [hd]; exact h.held, by rw [hi]; exact h.waiting, by rw [hi]; exact h.round⟩
  rw [hz]
  by_cases hy : y = z
  · subst hy; simpa using hr
  · simpa [hy] using h.zones y

theorem storeZone (h : PowerOk s) (z : ZoneNo) {r : ZoneRecord} (hr : ZoneOk r) :
    PowerOk (storeZone z r s) :=
  (h.set (u := s.withZones (s.zones.set z r)) rfl hr rfl rfl).raiseIf _ _

theorem decided (h : PowerOk s) (z : ZoneNo) (e : Entry) (a r : Bool) :
    PowerOk (s.withIlc (s.ilc.decide z e a r)) :=
  ⟨h.zones, h.held, h.waiting, h.round⟩

theorem missedReply (h : PowerOk s) (z : ZoneNo) (r : Bool) : PowerOk (missedReply z r s) :=
  (h.decided z .void false r).storeZone z (h.zones z).miss

theorem goodReply (h : PowerOk s) (z : ZoneNo) (st : ChannelStatus) (r : InverterFrame) :
    PowerOk (goodReply z st r s) :=
  ((h.decided z (.energy r.energy) true true).storeZone z ((h.zones z).goodReply st r.meanPower)).raiseIf _ _

theorem sendPoll (h : PowerOk s) {d : DispatchSet} (hd : d.inRange) (z : ZoneNo) : PowerOk (sendPoll d z s) := by
  refine ⟨h.zones, h.held, h.waiting, fun r hr => ?_⟩
  cases hr
  refine ⟨hd, ?_⟩
  show (if (s.zones.get z).state = .active then d.setpoints.get z else 0) ≤ 8000
  split
  · exact (hd z).2
  · omega

theorem beginRound (h : PowerOk s) {d : DispatchSet} (hd : d.inRange) : PowerOk (beginRound d s) := by
  unfold Machine.beginRound
  refine sendPoll ?_ hd .z1
  refine ⟨fun z => ?_, h.held, h.waiting, h.round⟩
  rw [State.withIlc_zones, State.withZones_zones, PerZone.get_tabulate]
  exact (h.zones z).granted (hd z).1

theorem handSet (h : PowerOk s) {d : DispatchSet} (hd : d.inRange) : PowerOk (handSet d s) := by
  unfold Machine.handSet
  split
  · exact h.beginRound hd
  · exact ⟨h.zones, h.held, fun _ hm => by cases hm; exact hd, h.round⟩

theorem nextPoll (h : PowerOk s) {rd : Round} (hr : rd.carried.inRange) : PowerOk (nextPoll rd s) := by
  unfold Machine.nextPoll
  split
  · exact h.sendPoll hr _
  · unfold completeRound
    dsimp only
    have h' : PowerOk ((s.withEst { s.est with rounds := s.est.rounds ++ [roundRecordOf s.ilc.entries] }).withIlc
        { s.ilc with round := none, waiting := none, entries := .const none }) :=
      ⟨h.zones, h.held, fun _ hm => (nomatch hm), fun _ hm => (nomatch hm)⟩
    split
    · rename_i d hd
      exact h'.beginRound (h.waiting d hd)
    · exact h'

theorem takeReply (h : PowerOk s) (r : InverterFrame) : PowerOk (takeReply r s) := by
  obtain he | ⟨rd, hrd, he | he | ⟨st, he⟩⟩ := takeReply_cases r s
  · rwa [he]
  · rw [he]
    exact ⟨h.zones, h.held, h.waiting, fun _ hm => by cases hm; exact h.round rd hrd⟩
  · rw [he]
    exact (h.missedReply _ _).nextPoll (h.round rd hrd).1
  · rw [he]
    exact (h.goodReply _ _ _).nextPoll (h.round rd hrd).1

theorem closeWindow (h : PowerOk s) : PowerOk (closeWindow s) := by
  obtain he | ⟨rd, hrd, he⟩ := closeWindow_cases s
  · rwa [he]
  · rw [he]
    exact (h.missedReply _ _).nextPoll (h.round rd hrd).1

end PowerOk

/-! ### The grants (R72 to R74) -/

theorem cappedDemand_le_rating (r : ZoneRecord) (d : Nat) : cappedDemand r d ≤ r.rating.getD 0 := by
  unfold cappedDemand
  split
  · omega
  · omega
  · dsimp only
    split <;> omega

theorem ZoneOk.cappedDemand_le {z : ZoneRecord} (h : ZoneOk z) (d : Nat) : cappedDemand z d ≤ 800000 := by
  refine (cappedDemand_le_rating z d).trans ?_
  cases hr : z.rating with
  | none => simp
  | some r => exact (h.rating r hr).2

theorem allocate_le (budget : Nat) (d : PerZone Nat) (z : ZoneNo) : (allocate budget d).get z ≤ d.get z := by
  unfold allocate
  split
  · exact le_rfl
  · rename_i h
    rw [PerZone.get_tabulate]
    refine Nat.div_le_of_le_mul ?_
    rw [Nat.mul_comm]
    exact Nat.mul_le_mul_right _ (by omega)

theorem setpointsOf_get (g : PerZone Nat) (z : ZoneNo) :
    (setpointsOf g).get z = min 8000 (g.get z / 100) := by
  rw [setpointsOf, PerZone.get_tabulate]

theorem zeroSet_inRange : DispatchSet.inRange { setpoints := .const 0, grants := .const 0 } := fun z => by simp

theorem PowerOk.halted {s : State} (h : PowerOk s) (st : DispatcherState) : PowerOk (haltHeating st s) :=
  ⟨h.zones, zeroSet_inRange, h.waiting, h.round⟩

theorem PowerOk.computeGrants {s : State} (h : PowerOk s) : PowerOk (computeGrants s) := by
  unfold Machine.computeGrants
  split
  · refine ⟨h.zones, fun z => ?_, h.waiting, h.round⟩
    show (allocate _ _).get z ≤ _ ∧ (setpointsOf _).get z ≤ _
    rw [setpointsOf_get]
    refine ⟨(allocate_le ..).trans ?_, by omega⟩
    rw [zoneDemands, PerZone.get_tabulate]
    exact (h.zones z).cappedDemand_le _
  · exact PowerOk.halted (s := clearGuards s) (h.of_eq rfl rfl rfl rfl) _
  · exact PowerOk.halted (s := clearGuards s) (h.of_eq rfl rfl rfl rfl) _

theorem PowerOk.dispatchExpires {s : State} (h : PowerOk s) : PowerOk (dispatchExpires s) := by
  have h1 : PowerOk (applyCadence s) := by
    unfold applyCadence
    split
    · exact h
    · exact h.of_eq rfl rfl rfl rfl
  have h2 : PowerOk (inferIdle (applyCadence s)) := by
    unfold inferIdle
    split
    · exact h1.of_eq rfl rfl rfl rfl
    · exact h1
  have h3 := h2.computeGrants
  exact (h3.handSet h3.held).of_eq rfl rfl rfl rfl

/-! ### Every act, for the zones -/

theorem storeField_powerOk {s : State} (x : Nat) (a : FieldAddress) (h : PowerOk s) :
    PowerOk (storeField a (fitField s a x) s) := by
  unfold storeField
  split
  · split <;> exact h.of_eq rfl rfl rfl rfl
  · rename_i ht
    have hv : a.field = 1 → 10000 ≤ fitField s a x ∧ fitField s a x ≤ 800000 := fun hf => by
      rw [fitField, ht, hf]
      simp only [clamp]
      omega
    have h' := h.set (u := s.withZones (s.zones.set (recordZone a.record)
      ((s.zones.get (recordZone a.record)).storeField a.field (fitField s a x)))) rfl
      ((h.zones (recordZone a.record)).storeField hv) rfl rfl
    dsimp only
    split
    · obtain ⟨p, hp⟩ := lowerPositionA_eq (s.withZones (s.zones.set (recordZone a.record)
        ((s.zones.get (recordZone a.record)).storeField a.field (fitField s a x))))
      rw [hp]
      exact h'.of_eq rfl rfl rfl rfl
    · exact h'
  · split
    · exact h.of_eq rfl rfl rfl rfl
    · split <;> exact h.of_eq rfl rfl rfl rfl
  · exact h.of_eq rfl rfl rfl rfl

theorem OnlyVerdict.powerOk {s u : State} (h : OnlyVerdict s u) (hs : PowerOk s) : PowerOk u :=
  hs.of_eq h.zones h.ilc (by rw [h.dsp]) (by rw [h.dsp])

theorem handOver_powerOk {s : State} {count : Lot → Lot} {g : GateBillet} (hg : gateFront s = some g)
    (h : PowerOk s) : PowerOk (handOver count g.billet s) := by
  obtain ⟨-, -, -, hd, -, hrest⟩ := handOver_spec count g _ s (gateFront_eq_some hg)
  have hz : (handOver count g.billet s).zones = s.zones := by simpa using congrArg State.zones hrest
  have hi : (handOver count g.billet s).ilc = s.ilc := by simpa using congrArg State.ilc hrest
  exact h.of_eq hz hi (by rw [hd]) (by rw [hd])

theorem leftUncertain_sets (s : State) :
    (leftUncertain s).grants = s.dsp.grants ∧ (leftUncertain s).setpoints = s.dsp.setpoints := by
  unfold leftUncertain
  split <;> exact ⟨rfl, rfl⟩

theorem PowerOk.unblocks {s : State} (h : PowerOk s) : PowerOk (dispatcherUnblocks s) := by
  rw [dispatcherUnblocks_spec]
  exact h.of_eq rfl rfl (leftUncertain_sets s).1 (leftUncertain_sets s).2

theorem Act.powerOk {i : Instr} {s u : State} (ha : Act i s u) (h : PowerOk s) : PowerOk u := by
  cases ha with
  | same => exact h
  | linkErrors => exact h.of_eq rfl rfl rfl rfl
  | loses =>
    obtain ⟨n, hn⟩ := loseReservation_eq s
    rw [hn]
    exact h.of_eq rfl rfl rfl rfl
  | noticeRead => exact h.of_eq rfl rfl rfl rfl
  | noticeClear => exact h.of_eq rfl rfl rfl rfl
  | noticeMask => exact h.of_eq rfl rfl rfl rfl
  | deposit st x _ a => exact storeField_powerOk x.value a h
  | loadRecipe => exact h.of_eq rfl rfl rfl rfl
  | pushRequest => exact h.of_eq rfl rfl rfl rfl
  | pushDone st x _ p =>
    obtain ⟨trk, evu, lot, he⟩ := applyPush_eq p .tracked s
    rw [he]
    exact h.of_eq rfl rfl rfl rfl
  | slips =>
    obtain ⟨n, he⟩ := enterUncertain_eq s
    rw [he]
    refine ⟨h.zones, ?_, h.waiting, h.round⟩
    simp only [State.withNtc_dsp, State.withDsp_dsp]
    split
    · exact zeroSet_inRange
    · exact h.held
  | pushCancel =>
    obtain ⟨l, n, he⟩ := dropPush_eq s
    rw [he]
    exact h.of_eq rfl rfl rfl rfl
  | pushTimerStops => exact h.of_eq rfl rfl rfl rfl
  | resyncNotApplied =>
    obtain ⟨l, n, he⟩ :=
      dropPush_eq (s.withTrk { s.trk with generation := nextGeneration s.trk.generation })
    refine PowerOk.unblocks ?_
    rw [he]
    exact h.of_eq rfl rfl rfl rfl
  | resyncApplied st _ p =>
    obtain ⟨trk, evu, lot, he⟩ := applyPush_eq p .untracked s
    refine PowerOk.unblocks ?_
    rw [he]
    exact h.of_eq rfl rfl rfl rfl
  | purge =>
    have hp := purgeTrack_spec s
    have hz : (purgeTrack s).zones = s.zones := by simpa using congrArg State.zones hp.rest
    have hi : (purgeTrack s).ilc = s.ilc := by simpa using congrArg State.ilc hp.rest
    obtain ⟨hg, hs⟩ := leftUncertain_sets s
    refine h.of_eq hz hi ?_ ?_
    · rw [hp.dsp]; split
      · exact hg
      · rfl
    · rw [hp.dsp]; split
      · exact hs
      · rfl
  | reserve => exact h.of_eq rfl rfl rfl rfl
  | take _ _ _ _ _ _ _ hg => exact handOver_powerOk hg h
  | discard _ _ _ _ _ hg => exact handOver_powerOk hg h
  | cadence => exact h.of_eq rfl rfl rfl rfl
  | run => exact h.of_eq rfl rfl rfl rfl
  | stop => exact h.halted _
  | zoneRestore _ z => exact h.set rfl (h.zones z).restored rfl rfl
  | lotOpen => exact h.of_eq rfl rfl rfl rfl
  | newestLoad _ n =>
    obtain ⟨l, ntc, he⟩ := setNewestLoad_eq n s
    rw [he]
    exact h.of_eq rfl rfl rfl rfl
  | permitLost =>
    have h1 : PowerOk (haltHeating .stopped (s.withPermit false)) :=
      PowerOk.halted (s := s.withPermit false) (h.of_eq rfl rfl rfl rfl) _
    exact PowerOk.dispatchExpires (h1.of_eq rfl rfl rfl rfl)
  | permitPresent => exact h.of_eq rfl rfl rfl rfl
  | dispatchExpiry => exact h.dispatchExpires
  | inverterReply _ r => exact h.takeReply r
  | windowCloses => exact h.closeWindow
  | round _ r => exact (takeRound_onlyFront r s).powerOk h
  | correction _ c => exact (takeCorrection_onlyFront c s).powerOk h
  | samples _ src bytes => exact (receiveSample_onlyVerdict src bytes s).powerOk h
  | hunts _ src => exact (setPyro_onlyVerdict src _ s).powerOk h
  | settles => exact (settleExpires_onlyFront s).powerOk h
  | waits => exact (waitExpires_onlyFront s).powerOk h

/-! ### The obligation -/

theorem reset_dispatcherOk (permit : Bool) : DispatcherOk permit .idle State.reset.dsp :=
  ⟨fun h => (nomatch h), fun h => (nomatch h), fun _ => ⟨rfl, rfl, rfl⟩, fun h => (nomatch h),
    fun _ h => (nomatch h), fun _ h => (nomatch h)⟩

theorem reset_dispatcherSafe : DispatcherSafe State.reset := (dispatcherSafe_iff _).2 (reset_dispatcherOk _)

theorem powerOn_dispatcherSafe (straps : BitVec 4) (s : State) : DispatcherSafe (powerOn straps s) :=
  (dispatcherSafe_iff _).2 (reset_dispatcherOk s.permit)

theorem reset_zonesConsistent : ZonesConsistent State.reset :=
  (zonesConsistent_iff _).2
    { zones := fun z => by
        rw [State.reset, PerZone.get_const]
        exact ⟨by simp [ZoneRecord.reset], fun h => (nomatch h), by simp [ZoneRecord.reset],
          by simp [ZoneRecord.reset], fun _ h => (nomatch h)⟩
      held := zeroSet_inRange
      waiting := fun _ h => (nomatch h)
      round := fun _ h => (nomatch h) }

/-- Settles O57: the dispatcher's relation reads PERMIT, the track state and DSP alone, the zones' relation the
zone records, the held set and ILC alone; each act keeps both. -/
theorem stepKeepsPower : Obligations.StepKeepsPower := fun _ _ hs =>
  ⟨fun h => step_keeps (P := DispatcherSafe) (fun _ _ _ => id) (fun _ _ => id)
      (fun _ _ _ hi => exec_keeps powerOn_dispatcherSafe (fun _ _ => id)
        (fun _ _ _ ha h => (dispatcherSafe_iff _).2 (ha.dispatcherOk ((dispatcherSafe_iff _).1 h))) hi)
      hs h,
    fun h => step_keeps (P := ZonesConsistent) (fun _ _ _ => id) (fun _ _ => id)
      (fun _ _ _ hi => exec_keeps (fun _ _ => reset_zonesConsistent) (fun _ _ => id)
        (fun _ _ _ ha h => (zonesConsistent_iff _).2 (ha.powerOk ((zonesConsistent_iff _).1 h))) hi)
      hs h⟩

end Sys2Proof.Machine
end

section
/-! PROOFS. What a row can do to a link unit, said once (`exec_links`): a row is a run of operations of the units. -/

namespace Sys2Proof.Machine

/-! ### The operations of a unit -/

/-- One operation of a link unit, with the conditions under which a row performs it. -/
inductive LinkOp (st : Station) : Link → Link → Prop
  | answered (l : Link) (a : Answer) : LinkOp st l { l with answer := some a }
  | completes (l : Link) (e : Executing) (a : Answer) (r : List Byte) (he : l.executing = some e) :
      LinkOp st l (l.complete st e a r)
  | told (l : Link) (h : st = .press) : LinkOp st l { l with resetOwed := false }.takeNext
  | owes (l : Link) (h : st = .press) : LinkOp st l { l with resetOwed := true }
  | breaks (l : Link) : LinkOp st l l.afterBreak
  | mends (l : Link) : LinkOp st l { l with lineBreak := false }
  | begins (l : Link) (hr : l.receiver = .hunting) (hb : l.lineBreak = false)
      (hd : st = .supervisor → ∀ f, l.transmitter ≠ .sending f) :
      LinkOp st l { l with receiver := .receiving [0xA5], overrun := decide (4 ≤ l.fifo.length) }
  | continues (l : Link) (sofar : List Byte) (b : Byte) (hr : l.receiver = .receiving sofar)
      (h : 3 ≤ (sofar ++ [b]).length →
        2 ≤ (byteAt (sofar ++ [b]) 2).toNat ∧ (byteAt (sofar ++ [b]) 2).toNat ≤ 66 ∧
          (sofar ++ [b]).length ≠ (byteAt (sofar ++ [b]) 2).toNat + 4) :
      LinkOp st l { l with receiver := .receiving (sofar ++ [b]) }
  | hunts (l : Link) : LinkOp st l l.hunt
  | accepts (l : Link) (f : Frame) (hr : l.isReceiving = true) (ho : l.overrun = false) :
      LinkOp st l
        { l.hunt with fifo := l.fifo ++ [f], pace := decide (l.fifo.length + 1 < 4) }.takeNext
  | sends (l : Link) (f : List Byte) (ht : l.transmitter = .ready f) (hr : l.isReceiving = false) :
      LinkOp st l { l with transmitter := .sending f }
  | sent (l : Link) (f : List Byte) (ht : l.transmitter = .sending f) :
      LinkOp st l { l with transmitter := .idle }.takeNext
  | points (l : Link) (form : AddressForm) (a : FieldAddress) (h : resolve l.pointer form = some a) :
      LinkOp st l { l with pointer := a }

/-- Each link unit has come from one state to another by operations of a unit. -/
def LinkRun (s t : State) : Prop :=
  ∀ st, Relation.ReflTransGen (LinkOp st) (s.links.get st) (t.links.get st)

namespace LinkRun
variable {s t u : State}

theorem of_eq (h : t.links = s.links) : LinkRun s t := fun st => by rw [h]

theorem trans (h : LinkRun s t) (h' : LinkRun t u) : LinkRun s u := fun st => (h st).trans (h' st)

theorem of_set {st : Station} {l : Link} (h : t.links = s.links.set st l)
    (ho : LinkOp st (s.links.get st) l) : LinkRun s t := fun other => by
  rw [h]
  by_cases he : other = st
  · subst he
    simpa using .single ho
  · rw [PerStation.get_set_ne _ _ he]

theorem setLink {st : Station} {l : Link} (ho : LinkOp st (s.links.get st) l) : LinkRun s (setLink st l s) :=
  of_set rfl ho

/-- A relation of a unit that its operations keep is kept by the run. -/
theorem keeps (h : LinkRun s t) {P : Station → Link → Prop}
    (hP : ∀ st l m, LinkOp st l m → P st l → P st m) (hs : ∀ st, P st (s.links.get st)) :
    ∀ st, P st (t.links.get st) := fun st => by
  have key : ∀ l, Relation.ReflTransGen (LinkOp st) (s.links.get st) l → P st l := fun l hr => by
    induction hr with
    | refl => exact hs st
    | tail _ ho ih => exact hP st _ _ ho ih
  exact key _ (h st)

end LinkRun

/-! ### The parts of a row -/

theorem takeFrame_setLink_links (st : Station) (l : Link) (s : State) :
    (takeFrame st (setLink st l s)).links = s.links.set st l.takeNext := by
  simp [takeFrame]

theorem loseReservation_links (s : State) : (loseReservation s).links = s.links := by
  obtain ⟨n, h⟩ := loseReservation_eq s
  rw [h]
  rfl

theorem tellReset_links (s : State) :
    (tellReset s).links = s.links.set .press { s.links.press with resetOwed := false }.takeNext := by
  unfold tellReset takeFrame
  rw [setLink_links, loseReservation_links, setLink_links, PerStation.get_set_same, PerStation.set_set]

theorem tellReset_linkRun (s : State) : LinkRun s (tellReset s) :=
  .of_set (tellReset_links s) (.told s.links.press rfl)

theorem settleReset_linkRun (st : Station) (s : State) : LinkRun s (settleReset st s) := by
  unfold settleReset
  split
  · exact tellReset_linkRun s
  · exact .of_eq rfl

theorem settled_linkRun (i : Instr) (s : State) : LinkRun s (settled i s) := by
  unfold settled
  split
  · exact settleReset_linkRun _ s
  · exact .of_eq rfl

theorem reply_linkRun (st : Station) (c : Instr) (a : Answer) (s : State) : LinkRun s (reply st c a s) := by
  unfold reply
  dsimp only
  split
  · exact .setLink (.answered ..)
  · rename_i e he
    split
    · exact .setLink (.completes _ e _ _ he)
    · exact .setLink (.answered ..)

theorem driverEnable_eq_true_iff (s : State) :
    driverEnable s = true ↔ ∃ f, s.links.supervisor.transmitter = .sending f := by
  unfold driverEnable
  split <;> simp [*]

theorem canReceive_iff (s : State) (st : Station) :
    canReceive s st = true ↔
      (s.links.get st).lineBreak = false ∧
        (st = .supervisor → ∀ f, (s.links.get st).transmitter ≠ .sending f) := by
  unfold canReceive
  rw [Bool.and_eq_true, Bool.not_eq_true', Bool.not_eq_true', Bool.and_eq_false_imp]
  refine and_congr_right fun _ => ?_
  simp only [beq_iff_eq]
  constructor
  · rintro h rfl f hf
    rw [(driverEnable_eq_true_iff s).2 ⟨f, hf⟩] at h
    exact Bool.noConfusion (h rfl)
  · rintro h rfl
    rw [← Bool.not_eq_true, driverEnable_eq_true_iff]
    exact fun ⟨f, hf⟩ => h rfl f hf

theorem isReceiving_of_receiving {l : Link} {bytes : List Byte} (h : l.receiver = .receiving bytes) :
    l.isReceiving = true := by
  simp [Link.isReceiving, h]

theorem discardFaulty_linkRun (st : Station) (s : State) : LinkRun s (discardFaulty st s) :=
  .of_set rfl (.hunts _)

theorem completeFrame_linkRun {st : Station} {s : State} (bytes : List Byte)
    (hr : (s.links.get st).isReceiving = true) : LinkRun s (completeFrame st bytes s) := by
  unfold completeFrame
  dsimp only
  split
  · split
    · exact .setLink (.hunts _)
    · exact discardFaulty_linkRun st s
  · rename_i ho
    split
    · exact discardFaulty_linkRun st s
    · split
      · exact .of_set (takeFrame_setLink_links ..)
          (.accepts _ (frameOf bytes) hr (Bool.eq_false_iff.2 ho))
      · exact .setLink (.hunts _)

theorem receiveByte_linkRun (st : Station) (s : State) (b : Byte) : LinkRun s (receiveByte st s b) := by
  unfold receiveByte
  dsimp only
  split
  · rename_i hc
    obtain ⟨hbreak, hdrive⟩ := (canReceive_iff s st).1 hc
    split
    · rename_i hr
      split
      · rename_i hb
        subst hb
        exact .setLink (.begins _ hr hbreak hdrive)
      · exact .of_eq rfl
    · rename_i sofar hr
      split
      · rename_i h3
        exact .setLink (.continues _ sofar b hr fun h => absurd h (by omega))
      · split
        · exact discardFaulty_linkRun st s
        · rename_i hlen
          split
          · exact completeFrame_linkRun _ (isReceiving_of_receiving hr)
          · rename_i hne
            exact .setLink (.continues _ sofar b hr fun _ => ⟨by omega, by omega, hne⟩)
  · exact .of_eq rfl

theorem receiveBytes_linkRun (st : Station) (bytes : List Byte) (s : State) :
    LinkRun s (bytes.foldl (receiveByte st) s) := by
  induction bytes generalizing s with
  | nil => exact .of_eq rfl
  | cons b rest ih => exact (receiveByte_linkRun st s b).trans (ih _)

theorem receptionFault_linkRun (st : Station) (s : State) : LinkRun s (receptionFault st s) := by
  unfold receptionFault
  split
  · exact discardFaulty_linkRun st s
  · exact .of_eq rfl

theorem linkReset_linkRun (st : Station) (s : State) : LinkRun s (linkReset st s) := by
  unfold linkReset
  split
  · exact .of_eq rfl
  · have hb : LinkRun s (setLink st (s.links.get st).afterBreak s) := .setLink (.breaks _)
    have ho : ∀ t : State, LinkRun t (setLink .press { t.links.press with resetOwed := true } t) :=
      fun t => .setLink (.owes t.links.press rfl)
    dsimp only
    split
    · split
      · exact (hb.trans (ho _)).trans (tellReset_linkRun _)
      · exact hb.trans (ho _)
    · exact hb

theorem pressReset_linkRun (s : State) : LinkRun s (pressReset s) := by
  unfold pressReset
  split
  · exact .setLink (.owes s.links.press rfl)
  · exact tellReset_linkRun s

theorem startReply_linkRun (s : State) : LinkRun s (startReply s) := by
  unfold startReply
  dsimp only
  split
  · rename_i f ht
    split
    · exact .of_eq rfl
    · rename_i hr
      exact .setLink (.sends s.links.supervisor f ht (Bool.eq_false_iff.2 hr))
  · exact .of_eq rfl
  · exact .of_eq rfl

theorem finishReply_linkRun (st : Station) (s : State) : LinkRun s (finishReply st s) := by
  unfold finishReply
  dsimp only
  split
  · rename_i f ht
    exact .of_set (takeFrame_setLink_links ..) (.sent _ f ht)
  · exact .of_eq rfl
  · exact .of_eq rfl

theorem setPointer_linkRun {st : Station} {a : FieldAddress} {s : State} {form : AddressForm}
    (h : resolve (pointer s st) form = some a) : LinkRun s (setPointer st a s) :=
  .setLink (.points _ form a h)

/-! ### The acts leave the units as they are -/

theorem handOver_links {s : State} {count : Lot → Lot} {g : GateBillet} (hg : gateFront s = some g) :
    (handOver count g.billet s).links = s.links := by
  obtain ⟨-, -, -, -, -, hrest⟩ := handOver_spec count g _ s (gateFront_eq_some hg)
  simpa using congrArg State.links hrest

theorem Act.links {i : Instr} {s u : State} (ha : Act i s u) : u.links = s.links := by
  cases ha with
  | same => rfl
  | linkErrors => rfl
  | loses => exact loseReservation_links s
  | noticeRead => rfl
  | noticeClear => rfl
  | noticeMask => rfl
  | deposit st x _ a =>
    obtain ⟨zones, pst, he⟩ := storeField_eq a (fitField s a x.value) s
    rw [he]
    rfl
  | loadRecipe => rfl
  | pushRequest => rfl
  | pushDone st x _ p =>
    obtain ⟨trk, evu, lot, he⟩ := applyPush_eq p .tracked s
    rw [he]
    rfl
  | slips =>
    obtain ⟨n, he⟩ := enterUncertain_eq s
    rw [he]
    rfl
  | pushCancel =>
    obtain ⟨l, n, he⟩ := dropPush_eq s
    rw [he]
    rfl
  | pushTimerStops => rfl
  | resyncNotApplied =>
    unfold Machine.resyncNotApplied
    obtain ⟨l, n, he⟩ :=
      dropPush_eq (s.withTrk { s.trk with generation := nextGeneration s.trk.generation })
    rw [dispatcherUnblocks_spec, he]
    rfl
  | resyncApplied st _ p =>
    obtain ⟨trk, evu, lot, he⟩ := applyPush_eq p .untracked s
    rw [dispatcherUnblocks_spec, he]
    rfl
  | purge => simpa using congrArg State.links (purgeTrack_spec s).rest
  | reserve => rfl
  | take _ _ _ _ _ _ _ hg => exact handOver_links hg
  | discard _ _ _ _ _ hg => exact handOver_links hg
  | cadence => rfl
  | run => rfl
  | stop => rfl
  | zoneRestore => rfl
  | lotOpen => rfl
  | newestLoad _ n =>
    obtain ⟨l, ntc, he⟩ := setNewestLoad_eq n s
    rw [he]
    rfl
  | permitLost => exact (dispatchExpires_onlyDispatch _).links
  | permitPresent => rfl
  | dispatchExpiry => exact (dispatchExpires_onlyDispatch s).links
  | inverterReply _ r => exact (takeReply_onlyIlc r s).links
  | windowCloses => exact (closeWindow_onlyIlc s).links
  | round _ r => exact (takeRound_onlyFront r s).links
  | correction _ c => exact (takeCorrection_onlyFront c s).links
  | samples _ src bytes => exact (receiveSample_onlyVerdict src bytes s).links
  | hunts _ src => exact (setPyro_onlyVerdict src _ s).links
  | settles => exact (settleExpires_onlyFront s).links
  | waits => exact (waitExpires_onlyFront s).links

/-! ### Every row -/

theorem Owned.linkRun {st : Station} {v u w : State} (h : Owned st v u w) (hu : u.links = v.links) :
    LinkRun v w := by
  have hr : LinkRun v u := .of_eq hu
  cases h with
  | acted => exact hr
  | pointed form f hf =>
    refine hr.trans (setPointer_linkRun (form := form) ?_)
    rwa [pointer, hu]

theorem LinkRow.linkRun {i : Instr} {s t : State} (hi : LinkRow i) (h : exec i s = .next t) :
    LinkRun s t := by
  cases hi with
  | linkBreak st => cases h; exact linkReset_linkRun st s
  | pressLinkReset => cases h; exact pressReset_linkRun s
  | frameReceived st bytes => cases h; exact receiveBytes_linkRun st bytes s
  | frameGapTimeout st => cases h; exact receptionFault_linkRun st s
  | replyStart => cases h; exact startReply_linkRun s
  | replySent st => cases h; exact finishReply_linkRun st s
  | frameStart st => cases h; exact receiveByte_linkRun st s 0xA5
  | parityError st => cases h; exact receptionFault_linkRun st s
  | breakEnd st => cases h; exact .setLink (.mends _)

/-- Every row but power-on reset is a run of operations of the link units. -/
theorem exec_links {i : Instr} {s t : State} (h : exec i s = .next t)
    (hi : ∀ straps, i ≠ .powerOnReset straps) : LinkRun s t := by
  obtain ⟨u, ha, hf⟩ := exec_finish h hi
  have hs := settled_linkRun i s
  cases hf with
  | done => exact hs.trans (.of_eq ha.links)
  | links _ hrow => exact hrow.linkRun h
  | replied st a w _ hw => exact (hs.trans (hw.linkRun ha.links)).trans (reply_linkRun st i a w)

end Sys2Proof.Machine
end

section
/-! PROOFS. The items of the link units and of the pyrometer inputs under every step (R92, R143, R147 to R150,
R152). -/

namespace Sys2Proof.Machine

/-! ### One link unit -/

/-- What `LinksConsistent` says of the unit of a station, but for the frames that a free unit may not hold. -/
structure LinkAlmost (st : Station) (l : Link) : Prop where
  room : l.fifo.length ≤ 4
  pace : l.pace = true ↔ l.fifo.length < 4
  single : l.executing.isSome → l.transmitter = .idle
  mark : l.isReceiving = true → l.lineBreak = false
  hunting : l.isReceiving = false → l.overrun = false
  begun : l.isReceiving = true ∧ l.overrun = false → l.fifo.length < 4
  frame : ∀ bytes, l.receiver = .receiving bytes → partialFrame bytes
  ready : st ≠ .supervisor → ∀ f, l.transmitter ≠ .ready f
  owed : st ≠ .press → l.resetOwed = false
  drives : st = .supervisor → ∀ f, l.transmitter = .sending f → l.isReceiving = false

/-- What `LinksConsistent` says of the unit of a station. -/
structure LinkOk (st : Station) (l : Link) : Prop extends LinkAlmost st l where
  free : l.executing = none ∧ l.transmitter = .idle ∧ l.resetOwed = false → l.fifo = []

theorem linksConsistent_iff (s : State) : LinksConsistent s ↔ ∀ st, LinkOk st (s.links.get st) := by
  constructor
  · rintro ⟨hc, hready, howed, hdrives⟩ st
    obtain ⟨h1, h2, h3, h4, h5, h6, h7, h8⟩ := hc st
    refine ⟨⟨h1, h2, h3, h5, h6, h7, h8, hready st, howed st, ?_⟩, h4⟩
    rintro rfl f hf
    exact hdrives ((driverEnable_eq_true_iff s).2 ⟨f, hf⟩)
  · intro h
    refine ⟨fun st => ⟨(h st).room, (h st).pace, (h st).single, (h st).free, (h st).mark, (h st).hunting,
      (h st).begun, (h st).frame⟩, fun st => (h st).ready, fun st => (h st).owed, fun hd => ?_⟩
    obtain ⟨f, hf⟩ := (driverEnable_eq_true_iff s).1 hd
    exact (h .supervisor).drives rfl f hf

/-- A unit that has had the chance to take a frame leaves none waiting while it is free. -/
theorem takeNext_free (l : Link) (h1 : l.takeNext.executing = none) (h2 : l.takeNext.transmitter = .idle)
    (h3 : l.takeNext.resetOwed = false) : l.takeNext.fifo = [] := by
  obtain h | ⟨f, rest, -, -, -, -, h⟩ := takeNext_cases l
  · rw [h] at h1 h2 h3 ⊢
    cases hf : l.fifo with
    | nil => rfl
    | cons f rest =>
      have he := congrArg Link.executing h
      simp [Link.takeNext, h1, h2, h3, hf] at he
  · rw [h] at h1
    cases h1

theorem LinkAlmost.takeNext {st : Station} {l : Link} (h : LinkAlmost st l) : LinkOk st l.takeNext := by
  refine ⟨?_, fun ⟨h1, h2, h3⟩ => takeNext_free l h1 h2 h3⟩
  obtain he | ⟨f, rest, -, ht, hf, -, he⟩ := takeNext_cases l
  · rwa [he]
  · have hroom := h.room
    rw [hf, List.length_cons] at hroom
    rw [he]
    exact
      { h with
        room := by dsimp only; omega
        pace := iff_of_true rfl (by dsimp only; omega)
        single := fun _ => ht
        begun := fun _ => by dsimp only; omega }

/-! ### The operations -/

section Operations
variable {st : Station} {l : Link}

theorem LinkAlmost.idle (h : LinkAlmost st l) : LinkAlmost st { l with transmitter := .idle } :=
  { h with
    single := fun _ => rfl
    ready := fun _ _ ht => (nomatch ht)
    drives := fun _ _ ht => (nomatch ht) }

theorem LinkAlmost.told (h : LinkAlmost st l) : LinkAlmost st { l with resetOwed := false } :=
  { h with owed := fun _ => rfl }

theorem LinkAlmost.hunts (h : LinkAlmost st l) : LinkAlmost st l.hunt :=
  { h with
    mark := fun hr => (nomatch hr)
    hunting := fun _ => rfl
    begun := fun hr => (nomatch hr.1)
    frame := fun _ hr => (nomatch hr)
    drives := fun _ _ _ => rfl }

theorem LinkAlmost.accepts (h : LinkAlmost st l) (hroom : l.fifo.length < 4) (f : Frame) :
    LinkAlmost st
      { l.hunt with fifo := l.fifo ++ [f], pace := decide (l.fifo.length + 1 < 4) } :=
  { h.hunts with
    room := by simp only [List.length_append, List.length_singleton]; omega
    pace := by simp
    begun := fun hr => (nomatch hr.1) }

theorem LinkAlmost.completes (h : LinkAlmost st l) {e : Executing} (he : l.executing = some e) (a : Answer)
    (r : List Byte) : LinkOk st (l.complete st e a r) := by
  have hidle : l.transmitter = .idle := h.single (by simp [he])
  have hdone : LinkAlmost st { l with executing := none, answer := some a } :=
    { h with single := fun hs => (nomatch hs) }
  unfold Link.complete
  dsimp only
  split
  · exact hdone.takeNext
  · split
    · rename_i hs
      rw [Bool.and_eq_true, beq_iff_eq] at hs
      exact
        { hdone with
          single := fun hs => (nomatch hs)
          ready := fun hne => absurd hs.1 hne
          drives := fun _ _ ht => (nomatch ht)
          free := fun hf => (nomatch hf.2.1) }
    · rename_i hs
      rw [Bool.and_eq_true, beq_iff_eq] at hs
      exact
        { hdone with
          single := fun hs => (nomatch hs)
          ready := fun _ _ ht => (nomatch ht)
          drives := fun hst _ _ => Bool.eq_false_iff.2 fun hr => hs ⟨hst, hr⟩
          free := fun hf => (nomatch hf.2.1) }

theorem LinkOk.breaks (h : LinkOk st l) : LinkOk st l.afterBreak :=
  { h.hunts with
    room := by simp [Link.afterBreak]
    pace := by simp [Link.afterBreak]
    single := fun hs => h.single (by simpa [Link.afterBreak] using hs)
    mark := fun hr => (nomatch hr)
    begun := fun hr => (nomatch hr.1)
    free := fun _ => rfl }

theorem LinkOk.begins (h : LinkOk st l) (hb : l.lineBreak = false)
    (hd : st = .supervisor → ∀ f, l.transmitter ≠ .sending f) :
    LinkOk st { l with receiver := .receiving [0xA5], overrun := decide (4 ≤ l.fifo.length) } :=
  { h with
    mark := fun _ => hb
    hunting := fun hn => (nomatch hn)
    begun := fun hn => by simpa using hn.2
    frame := fun bytes hn => by cases hn; exact ⟨rfl, fun h3 => absurd h3 (by decide)⟩
    drives := fun hst f hf => absurd hf (hd hst f) }

/-- The bytes of a frame in reception with one more that does not end it. -/
theorem partialFrame_append {sofar : List Byte} {b : Byte} (h : partialFrame sofar)
    (hb : 3 ≤ (sofar ++ [b]).length →
      2 ≤ (byteAt (sofar ++ [b]) 2).toNat ∧ (byteAt (sofar ++ [b]) 2).toNat ≤ 66 ∧
        (sofar ++ [b]).length ≠ (byteAt (sofar ++ [b]) 2).toNat + 4) : partialFrame (sofar ++ [b]) := by
  obtain ⟨hstart, hlen⟩ := h
  have hne : sofar ≠ [] := fun h0 => by simp [h0] at hstart
  refine ⟨by rw [List.head?_append_of_ne_nil _ hne, hstart], fun h3 => ?_⟩
  obtain ⟨h2, h66, hend⟩ := hb h3
  refine ⟨h2, h66, ?_⟩
  rw [List.length_append, List.length_singleton] at h3 hend ⊢
  by_cases h : 3 ≤ sofar.length
  · have hsame : byteAt (sofar ++ [b]) 2 = byteAt sofar 2 := List.getD_append _ _ _ _ (by omega)
    rw [hsame] at hend ⊢
    have := (hlen h).2.2
    omega
  · omega

theorem LinkOk.continues (h : LinkOk st l) {sofar : List Byte} {b : Byte}
    (hr : l.receiver = .receiving sofar)
    (hb : 3 ≤ (sofar ++ [b]).length →
      2 ≤ (byteAt (sofar ++ [b]) 2).toNat ∧ (byteAt (sofar ++ [b]) 2).toNat ≤ 66 ∧
        (sofar ++ [b]).length ≠ (byteAt (sofar ++ [b]) 2).toNat + 4) :
    LinkOk st { l with receiver := .receiving (sofar ++ [b]) } := by
  have hrec : l.isReceiving = true := isReceiving_of_receiving hr
  exact
    { h with
      mark := fun _ => h.mark hrec
      hunting := fun hn => (nomatch hn)
      begun := fun hn => h.begun ⟨hrec, hn.2⟩
      frame := fun bytes hn => by cases hn; exact partialFrame_append (h.frame _ hr) hb
      drives := fun hst f hf => absurd (h.drives hst f hf) (by simp [hrec]) }

theorem LinkOk.sends (h : LinkOk st l) {f : List Byte} (ht : l.transmitter = .ready f)
    (hr : l.isReceiving = false) : LinkOk st { l with transmitter := .sending f } :=
  { h with
    single := fun hs => by rw [h.single hs] at ht; cases ht
    ready := fun _ _ hn => (nomatch hn)
    drives := fun _ _ _ => hr
    free := fun hn => (nomatch hn.2.1) }

end Operations

/-- Every operation of a unit keeps its items in agreement. -/
theorem LinkOp.linkOk (st : Station) (l m : Link) (ho : LinkOp st l m) (h : LinkOk st l) : LinkOk st m := by
  cases ho with
  | answered => exact { h with }
  | completes e a r he => exact h.toLinkAlmost.completes he a r
  | told => exact h.toLinkAlmost.told.takeNext
  | owes hp => exact { h with owed := fun hn => absurd hp hn, free := fun hf => (nomatch hf.2.2) }
  | breaks => exact h.breaks
  | mends => exact { h with mark := fun _ => rfl }
  | begins _ hb hd => exact h.begins hb hd
  | continues sofar b hr hb => exact h.continues hr hb
  | hunts => exact { h.toLinkAlmost.hunts with free := h.free }
  | accepts f hr hov => exact (h.toLinkAlmost.accepts (h.begun ⟨hr, hov⟩) f).takeNext
  | sends f ht hr => exact h.sends ht hr
  | sent => exact h.toLinkAlmost.idle.takeNext
  | points => exact { h with }

theorem linkOk_reset (st : Station) : LinkOk st Link.reset :=
  { room := by decide
    pace := by decide
    single := fun _ => rfl
    mark := fun h => (nomatch h)
    hunting := fun _ => rfl
    begun := fun h => (nomatch h.1)
    frame := fun _ h => (nomatch h)
    ready := fun _ _ h => (nomatch h)
    owed := fun _ => rfl
    drives := fun _ _ h => (nomatch h)
    free := fun _ => rfl }

theorem reset_linksConsistent : LinksConsistent State.reset :=
  (linksConsistent_iff _).2 fun st => by cases st <;> exact linkOk_reset _

theorem exec_keeps_links {i : Instr} {s t : State} (h : exec i s = .next t) (hs : LinksConsistent s) :
    LinksConsistent t := by
  by_cases hi : ∃ straps, i = .powerOnReset straps
  · obtain ⟨straps, rfl⟩ := hi
    cases h
    exact reset_linksConsistent
  · exact (linksConsistent_iff t).2
      ((exec_links h fun straps hp => hi ⟨straps, hp⟩).keeps LinkOp.linkOk ((linksConsistent_iff s).1 hs))

/-! ### The pyrometer inputs -/

/-- What `InputsConsistent` says of one input. -/
def InputOk (p : PyroInput) : Prop := p.frame.length ≤ 3 ∧ (p.frame = [] ∨ p.frame.head? = some 0xC3)

theorem InputsConsistent.of_eq {s t : State} (h : InputsConsistent s) (ha : t.pya = s.pya)
    (hb : t.pyb = s.pyb) : InputsConsistent t := fun src => by
  have hs := h src
  cases src with
  | a => simpa [pyroInput, ha] using hs
  | b => simpa [pyroInput, hb] using hs

theorem InputsConsistent.setPyro {s : State} (h : InputsConsistent s) (src : Pyro) {p : PyroInput}
    (hp : InputOk p) : InputsConsistent (setPyro src p s) := fun other => by
  cases src <;> cases other
  · exact hp
  · exact h .b
  · exact h .a
  · exact hp

theorem pyroInput_ok {s : State} (h : InputsConsistent s) (src : Pyro) : InputOk (pyroInput s src) := h src

theorem OnlyFront.inputs {s u : State} (h : OnlyFront s u) (hs : InputsConsistent s) : InputsConsistent u :=
  hs.of_eq h.pya h.pyb

theorem huntPyro_inputs {s : State} (src : Pyro) (h : InputsConsistent s) :
    InputsConsistent (huntPyro src s) :=
  h.setPyro src ⟨by simp, .inl rfl⟩

theorem takeSample_inputs {s : State} (src : Pyro) (value : Nat) (h : InputsConsistent s) :
    InputsConsistent (takeSample src value s) := by
  unfold takeSample
  dsimp only
  split
  · exact (rowSample_onlyFront ..).inputs (h.setPyro .a ⟨by simp, .inl rfl⟩)
  · exact (exitSample_onlyFront ..).inputs (h.setPyro .b ⟨by simp, .inl rfl⟩)

theorem receiveSampleByte_inputs {s : State} (src : Pyro) (b : Byte) (h : InputsConsistent s) :
    InputsConsistent (receiveSampleByte src s b) := by
  rw [receiveSampleByte_spec]
  split
  · exact h
  · rename_i hb
    split
    · rename_i hlen
      refine h.setPyro src ⟨by dsimp only; omega, .inr ?_⟩
      obtain h0 | h0 := (h src).2
      · rw [h0] at hb ⊢
        simpa using hb
      · rw [List.head?_append, h0]
        rfl
    · split
      · exact takeSample_inputs src _ h
      · exact huntPyro_inputs src h

theorem receiveSample_inputs {s : State} (src : Pyro) (bytes : List Byte) (h : InputsConsistent s) :
    InputsConsistent (receiveSample src bytes s) := by
  unfold receiveSample
  induction bytes generalizing s with
  | nil => exact h
  | cons b rest ih => exact ih (receiveSampleByte_inputs src b h)

theorem handOver_pyros {s : State} {count : Lot → Lot} {g : GateBillet} (hg : gateFront s = some g) :
    (handOver count g.billet s).pya = s.pya ∧ (handOver count g.billet s).pyb = s.pyb := by
  obtain ⟨-, -, -, -, -, hrest⟩ := handOver_spec count g _ s (gateFront_eq_some hg)
  exact ⟨by simpa using congrArg State.pya hrest, by simpa using congrArg State.pyb hrest⟩

theorem Act.inputs {i : Instr} {s u : State} (ha : Act i s u) (h : InputsConsistent s) :
    InputsConsistent u := by
  cases ha with
  | same => exact h
  | linkErrors => exact h.of_eq rfl rfl
  | loses =>
    obtain ⟨n, hn⟩ := loseReservation_eq s
    rw [hn]
    exact h.of_eq rfl rfl
  | noticeRead => exact h.of_eq rfl rfl
  | noticeClear => exact h.of_eq rfl rfl
  | noticeMask => exact h.of_eq rfl rfl
  | deposit st x _ a =>
    obtain ⟨zones, pst, he⟩ := storeField_eq a (fitField s a x.value) s
    rw [he]
    exact h.of_eq rfl rfl
  | loadRecipe => exact h.of_eq rfl rfl
  | pushRequest => exact h.of_eq rfl rfl
  | pushDone st x _ p =>
    obtain ⟨trk, evu, lot, he⟩ := applyPush_eq p .tracked s
    rw [he]
    exact h.of_eq rfl rfl
  | slips =>
    obtain ⟨n, he⟩ := enterUncertain_eq s
    rw [he]
    exact h.of_eq rfl rfl
  | pushCancel =>
    obtain ⟨l, n, he⟩ := dropPush_eq s
    rw [he]
    exact h.of_eq rfl rfl
  | pushTimerStops => exact h.of_eq rfl rfl
  | resyncNotApplied =>
    unfold Machine.resyncNotApplied
    obtain ⟨l, n, he⟩ :=
      dropPush_eq (s.withTrk { s.trk with generation := nextGeneration s.trk.generation })
    rw [dispatcherUnblocks_spec, he]
    exact h.of_eq rfl rfl
  | resyncApplied st _ p =>
    obtain ⟨trk, evu, lot, he⟩ := applyPush_eq p .untracked s
    rw [dispatcherUnblocks_spec, he]
    exact h.of_eq rfl rfl
  | purge =>
    have hp := (purgeTrack_spec s).rest
    exact h.of_eq (by simpa using congrArg State.pya hp) (by simpa using congrArg State.pyb hp)
  | reserve => exact h.of_eq rfl rfl
  | take _ _ _ _ _ _ _ hg => exact h.of_eq (handOver_pyros hg).1 (handOver_pyros hg).2
  | discard _ _ _ _ _ hg => exact h.of_eq (handOver_pyros hg).1 (handOver_pyros hg).2
  | cadence => exact h.of_eq rfl rfl
  | run => exact h.of_eq rfl rfl
  | stop => exact h.of_eq rfl rfl
  | zoneRestore => exact h.of_eq rfl rfl
  | lotOpen => exact h.of_eq rfl rfl
  | newestLoad _ n =>
    obtain ⟨l, ntc, he⟩ := setNewestLoad_eq n s
    rw [he]
    exact h.of_eq rfl rfl
  | permitLost =>
    have hd := dispatchExpires_onlyDispatch
      (makeExpiryDue (raise .permitOff (haltHeating .stopped (s.withPermit false))))
    exact h.of_eq hd.pya hd.pyb
  | permitPresent => exact h.of_eq rfl rfl
  | dispatchExpiry =>
    have hd := dispatchExpires_onlyDispatch s
    exact h.of_eq hd.pya hd.pyb
  | inverterReply _ r => exact h.of_eq (takeReply_onlyIlc r s).pya (takeReply_onlyIlc r s).pyb
  | windowCloses => exact h.of_eq (closeWindow_onlyIlc s).pya (closeWindow_onlyIlc s).pyb
  | round _ r => exact (takeRound_onlyFront r s).inputs h
  | correction _ c => exact (takeCorrection_onlyFront c s).inputs h
  | samples _ src bytes => exact receiveSample_inputs src bytes h
  | hunts _ src => exact huntPyro_inputs src h
  | settles => exact (settleExpires_onlyFront s).inputs h
  | waits => exact (waitExpires_onlyFront s).inputs h

theorem reset_inputsConsistent : InputsConsistent State.reset := fun src => by
  cases src <;> exact ⟨by decide, .inl rfl⟩

/-- Settles O60: a row is a run of operations of the units, each of which keeps the unit's items in agreement;
the inputs are changed by a sample's bytes and by hunting alone. -/
theorem stepKeepsLinks : Obligations.StepKeepsLinks := fun _ _ hs =>
  ⟨step_keeps (P := LinksConsistent) (fun _ _ _ => id) (fun _ _ => id) (fun _ _ _ => exec_keeps_links) hs,
    step_keeps (P := InputsConsistent) (fun _ _ _ => id) (fun _ _ => id)
      (fun _ _ _ hi => exec_keeps (fun _ _ => reset_inputsConsistent) (fun _ _ => id)
        (fun _ _ _ ha => ha.inputs) hi) hs⟩

end Sys2Proof.Machine
end

section
/-! PROOFS. The lots under every step: the shape of the queue, and the account of each lot (R134, R135, R140,
R141). -/

namespace Sys2Proof.Machine

/-! ### What an act does to the lots and to what they count -/

/-- What the lots read of the track: the recipe and the lot of every record, gate first. -/
def loads (t : Track) : List (Nat × Nat) :=
  (t.gate.map (·.billet) ++ t.row).map fun b => (b.recipe, b.lot)

theorem loads_eq_billets (s : State) : loads s.trk = (billets s).map fun b => (b.recipe, b.lot) := rfl

/-- LOT after a push has been applied (R140). -/
def appliedLots (p : PendingPush) (x : Lots) : Lots :=
  if p.recipe = 0 then { x with spacers := min 255 (x.spacers + 1) }
  else
    { x with
      queue :=
        x.queue.map fun l =>
          if l.number = p.lot then { l with toLoad := l.toLoad - 1, loaded := l.loaded + 1 } else l
      spacers := 0
      lastRecipe := some p.recipe }

/-- LOT after the removal of a record has been counted (R141). -/
def countedLots (count : Lot → Lot) (b : Billet) (x : Lots) : Lots :=
  { x with
    queue :=
      if b.recipe = 0 then x.queue else x.queue.map fun l => if l.number = b.lot then count l else l }

/-- LOT after LOT OPEN (R136). -/
def openedLots (x : LotOpenArgs) (y : Lots) : Lots :=
  { y with
    queue :=
      y.queue ++
        [{ number := y.nextNumber, recipe := x.recipe, toLoad := clamp 1 9999 x.count, loaded := 0,
           forged := 0, rejected := 0, lost := 0 }]
    nextNumber := nextLotNumber y.nextNumber }

/-- What an act does to the lots, and to the records and the push that they count. -/
inductive AccountAct (s u : State) : Prop
  | kept (ht : loads u.trk = loads s.trk) (hp : u.trk.push = s.trk.push) (hl : u.lot = s.lot)
  | granted (x : PushArgs) (lot : Nat) (h : pushChecks s x = .ok lot) (ht : loads u.trk = loads s.trk)
      (hp : u.trk.push = some (grantedPush s x lot)) (hl : u.lot = s.lot)
  | applied (p : PendingPush) (h : s.trk.push = some p)
      (ht : (loads u.trk).Perm ((p.recipe, p.lot) :: loads s.trk)) (hp : u.trk.push = none)
      (hl : u.lot = appliedLots p s.lot)
  | dropped (ht : loads u.trk = loads s.trk) (hp : u.trk.push = none)
      (hl : u.lot = testedLots u.trk s.lot)
  | purged (ht : loads u.trk = []) (hp : u.trk.push = none)
      (hl : u.lot = testedLots u.trk (lostLots (s.trk.row ++ s.trk.gate.map (·.billet)) s.lot))
  | removed (count : Lot → Lot) (hc : count = Lot.forge ∨ count = Lot.reject) (b : Billet)
      (ht : loads s.trk = (b.recipe, b.lot) :: loads u.trk) (hp : u.trk.push = s.trk.push)
      (hl : u.lot = testedLots u.trk (countedLots count b s.lot))
  | opened (x : LotOpenArgs) (h : openRefusal s x.recipe = none) (ht : u.trk = s.trk)
      (hl : u.lot = openedLots x s.lot)
  | newest (l : Lot) (n : Nat) (hn : n ≤ 9999) (h : s.lot.queue.getLast? = some l) (ht : u.trk = s.trk)
      (hl : u.lot =
        testedLots u.trk { s.lot with queue := s.lot.queue.dropLast ++ [{ l with toLoad := n }] })

theorem AccountAct.of_eq {s u : State} (ht : u.trk = s.trk) (hl : u.lot = s.lot) : AccountAct s u :=
  .kept (by rw [ht]) (by rw [ht]) hl

theorem AccountAct.of_inPlace {s u : State} (ht : s.trk.InPlace u.trk) (hl : u.lot = s.lot) :
    AccountAct s u :=
  .kept (ht.map_billets fun _ _ h => by rw [h.recipe, h.lot]) ht.push hl

/-- An act is one of these as well when it changes the dispatcher besides. -/
theorem AccountAct.congr {s u v : State} (h : AccountAct s u) (ht : v.trk = u.trk) (hl : v.lot = u.lot) :
    AccountAct s v := by
  cases h with
  | kept h1 h2 h3 => exact .kept (by rw [ht, h1]) (by rw [ht, h2]) (by rw [hl, h3])
  | granted x lot h0 h1 h2 h3 => exact .granted x lot h0 (by rw [ht, h1]) (by rw [ht, h2]) (by rw [hl, h3])
  | applied p h0 h1 h2 h3 => exact .applied p h0 (by rw [ht]; exact h1) (by rw [ht, h2]) (by rw [hl, h3])
  | dropped h1 h2 h3 => exact .dropped (by rw [ht, h1]) (by rw [ht, h2]) (by rw [hl, ht, h3])
  | purged h1 h2 h3 => exact .purged (by rw [ht, h1]) (by rw [ht, h2]) (by rw [hl, ht, h3])
  | removed count hc b h1 h2 h3 =>
    exact .removed count hc b (by rw [ht, h1]) (by rw [ht, h2]) (by rw [hl, ht, h3])
  | opened x h0 h1 h2 => exact .opened x h0 (by rw [ht, h1]) (by rw [hl, h2])
  | newest l n hn h0 h1 h2 => exact .newest l n hn h0 (by rw [ht, h1]) (by rw [hl, ht, h2])

theorem applyPush_account {s : State} {p : PendingPush} (est : EstimateState) (hp : s.trk.push = some p) :
    AccountAct s (applyPush p est s) := by
  have h := (applyPush_spec p est s).1
  exact .applied p hp (pushApplied_perm (f := fun b => (b.recipe, b.lot)) (fun _ _ => rfl) h) (by rw [h.1]) h.2.2

theorem handOver_account {s : State} {count : Lot → Lot} (hc : count = Lot.forge ∨ count = Lot.reject)
    {g : GateBillet} (hg : gateFront s = some g) : AccountAct s (handOver count g.billet s) := by
  have hgate := gateFront_eq_some hg
  obtain ⟨ht, -, -, -, ⟨queue, hq, hl, -⟩, -⟩ := handOver_spec count g _ s hgate
  refine .removed count hc g.billet ?_ (by rw [ht]) (by rw [hl, hq]; rfl)
  unfold loads
  rw [ht, advancedGate_billets, hgate]
  rfl

theorem setNewestLoad_account (n : Nat) (hn : n ≤ 9999) (s : State) : AccountAct s (setNewestLoad n s) := by
  unfold setNewestLoad
  split
  · exact .of_eq rfl rfl
  · rename_i l hl
    obtain ⟨ntc, h⟩ := closeLots_eq
      (s.withLot { s.lot with queue := s.lot.queue.dropLast ++ [{ l with toLoad := n }] })
    rw [h]
    exact .newest l n hn hl rfl rfl

theorem dropPush_account (s : State) (g : Nat) :
    AccountAct s (dropPush (s.withTrk { s.trk with generation := g })) := by
  obtain ⟨ht, hl, -⟩ := dropPush_spec (s.withTrk { s.trk with generation := g })
  exact .dropped (by rw [ht]; rfl) (by rw [ht]) hl

theorem Act.account {i : Instr} {s u : State} (ha : Act i s u) : AccountAct s u := by
  cases ha with
  | same => exact .of_eq rfl rfl
  | linkErrors => exact .of_eq rfl rfl
  | loses =>
    obtain ⟨n, hn⟩ := loseReservation_eq s
    rw [hn]
    exact .of_eq rfl rfl
  | noticeRead => exact .of_eq rfl rfl
  | noticeClear => exact .of_eq rfl rfl
  | noticeMask => exact .of_eq rfl rfl
  | deposit st x _ a =>
    obtain ⟨zones, pst, he⟩ := storeField_eq a (fitField s a x.value) s
    rw [he]
    exact .of_eq rfl rfl
  | loadRecipe => exact .of_eq rfl rfl
  | pushRequest st x _ lot h => exact .granted x lot h rfl rfl rfl
  | pushDone st x _ p _ _ hp => exact applyPush_account .tracked hp
  | slips =>
    obtain ⟨n, he⟩ := enterUncertain_eq s
    rw [he]
    exact .kept (by simp [loads, Function.comp_def]) rfl rfl
  | pushCancel => exact dropPush_account s s.trk.generation
  | pushTimerStops => exact .kept rfl rfl rfl
  | resyncNotApplied =>
    have h := dropPush_account s (nextGeneration s.trk.generation)
    unfold Machine.resyncNotApplied
    rw [dispatcherUnblocks_spec]
    exact h.congr rfl rfl
  | resyncApplied st _ p _ _ hp =>
    have h := applyPush_account .untracked hp
    rw [dispatcherUnblocks_spec]
    exact h.congr rfl rfl
  | purge =>
    have hp := purgeTrack_spec s
    exact .purged (by rw [hp.trk]; rfl) (by rw [hp.trk]) hp.lot
  | reserve => exact .of_eq rfl rfl
  | take _ _ _ _ _ _ _ hg => exact handOver_account (.inl rfl) hg
  | discard _ _ _ _ _ hg => exact handOver_account (.inr rfl) hg
  | cadence => exact .of_eq rfl rfl
  | run => exact .of_eq rfl rfl
  | stop => exact .of_eq rfl rfl
  | zoneRestore => exact .of_eq rfl rfl
  | lotOpen _ x _ h => exact .opened x h rfl rfl
  | newestLoad _ n _ hn => exact setNewestLoad_account n hn s
  | permitLost =>
    have ht := dispatchExpires_inPlace
      (makeExpiryDue (raise .permitOff (haltHeating .stopped (s.withPermit false))))
    exact .of_inPlace ht (dispatchExpires_onlyDispatch _).lot
  | permitPresent => exact .of_eq rfl rfl
  | dispatchExpiry => exact .of_inPlace (dispatchExpires_inPlace s) (dispatchExpires_onlyDispatch s).lot
  | inverterReply _ r => exact .of_eq (takeReply_onlyIlc r s).trk (takeReply_onlyIlc r s).lot
  | windowCloses => exact .of_eq (closeWindow_onlyIlc s).trk (closeWindow_onlyIlc s).lot
  | round _ r => exact .of_inPlace (takeRound_inPlace r s) (takeRound_onlyFront r s).lot
  | correction _ c => exact .of_inPlace (takeCorrection_inPlace c s) (takeCorrection_onlyFront c s).lot
  | samples _ src bytes =>
    exact .of_inPlace (receiveSample_inPlace src bytes s) (receiveSample_onlyVerdict src bytes s).lot
  | hunts _ src => exact .of_eq (setPyro_trk ..) (setPyro_onlyVerdict ..).lot
  | settles => exact .of_eq (settleExpires_trk s) (settleExpires_onlyFront s).lot
  | waits => exact .of_inPlace (waitExpires_inPlace s) (waitExpires_onlyFront s).lot

/-! ### The shape of the queue (R134) -/

/-- What `LotsInShape` says of one lot. -/
def LotOk (l : Lot) : Prop :=
  1 ≤ l.number ∧ l.number ≤ 255 ∧ 1 ≤ l.recipe ∧ l.recipe ≤ 15 ∧ l.toLoad ≤ 9999

/-- What `LotsInShape` says of LOT. -/
structure LotsOk (x : Lots) : Prop where
  two : x.queue.length ≤ 2
  older : ∀ l ∈ x.queue.dropLast, l.toLoad = 0
  lots : ∀ l ∈ x.queue, LotOk l
  next : 1 ≤ x.nextNumber ∧ x.nextNumber ≤ 255
  spacers : x.spacers ≤ 255

theorem lotsInShape_iff (s : State) : LotsInShape s ↔ LotsOk s.lot :=
  ⟨fun ⟨h1, h2, h3, h4, h5, h6⟩ => ⟨h1, h2, h3, ⟨h4, h5⟩, h6⟩, fun h =>
    ⟨h.two, h.older, h.lots, h.next.1, h.next.2, h.spacers⟩⟩

theorem dropLast_sublist_of_sublist {α : Type} {l m : List α} (h : l.Sublist m) :
    l.dropLast.Sublist m.dropLast := by
  have ht := (List.reverse_sublist.2 h).tail
  rwa [List.tail_reverse, List.tail_reverse, List.reverse_sublist] at ht

namespace LotsOk
variable {x : Lots}

/-- Lots leave the queue. -/
theorem sublist (h : LotsOk x) {queue : List Lot} (hq : queue.Sublist x.queue) (last : Option Lot) :
    LotsOk { x with queue := queue, lastClosed := last } :=
  { h with
    two := hq.length_le.trans h.two
    older := fun l hl => h.older l ((dropLast_sublist_of_sublist hq).subset hl)
    lots := fun l hl => h.lots l (hq.subset hl) }

theorem tested (h : LotsOk x) (trk : Track) : LotsOk (testedLots trk x) :=
  h.sublist List.filter_sublist _

/-- Lots change where they stand, the RUN_OUT ones staying so. -/
theorem map (h : LotsOk x) {f : Lot → Lot} (hf : ∀ l, LotOk l → LotOk (f l))
    (h0 : ∀ l, l.toLoad = 0 → (f l).toLoad = 0) : LotsOk { x with queue := x.queue.map f } :=
  { h with
    two := by simpa using h.two
    older := fun l hl => by
      rw [← List.map_dropLast] at hl
      obtain ⟨m, hm, rfl⟩ := List.mem_map.1 hl
      exact h0 m (h.older m hm)
    lots := fun l hl => by
      obtain ⟨m, hm, rfl⟩ := List.mem_map.1 hl
      exact hf m (h.lots m hm) }

theorem applied (h : LotsOk x) (p : PendingPush) : LotsOk (appliedLots p x) := by
  unfold appliedLots
  split
  · exact { h with spacers := by dsimp only; omega }
  · have hm := h.map (f := fun l =>
        if l.number = p.lot then { l with toLoad := l.toLoad - 1, loaded := l.loaded + 1 } else l)
      (fun l hl => by
        split
        · obtain ⟨h1, h2, h3, h4, h5⟩ := hl
          exact ⟨h1, h2, h3, h4, by dsimp only; omega⟩
        · exact hl)
      (fun l hl => by
        split
        · dsimp only; omega
        · exact hl)
    exact { hm with spacers := by simp }

theorem lost (h : LotsOk x) (bs : List Billet) : LotsOk (lostLots bs x) :=
  h.map (fun _ hl => hl) fun _ h0 => h0

theorem counted (h : LotsOk x) {count : Lot → Lot} (hc : count = Lot.forge ∨ count = Lot.reject)
    (b : Billet) : LotsOk (countedLots count b x) := by
  unfold countedLots
  split
  · exact h
  · refine h.map (fun l hl => ?_) fun l h0 => ?_
    · split
      · obtain rfl | rfl := hc <;> exact hl
      · exact hl
    · split
      · obtain rfl | rfl := hc <;> exact h0
      · exact h0

/-- A lot is appended behind lots that are all RUN_OUT. -/
theorem append (h : LotsOk x) {older : List Lot} (h1 : older.length ≤ 1) (h0 : ∀ l ∈ older, l.toLoad = 0)
    (hold : ∀ l ∈ older, LotOk l) {l : Lot} (hl : LotOk l) : LotsOk { x with queue := older ++ [l] } :=
  { h with
    two := by simp; omega
    older := by simpa using h0
    lots := fun m hm => (List.mem_append.1 hm).elim (hold m) fun hm => by
      rw [List.mem_singleton.1 hm]
      exact hl }

end LotsOk

theorem openRefusal_none {s : State} {n : Nat} (h : openRefusal s n = none) :
    (1 ≤ n ∧ n ≤ 15) ∧ recipeValid s n = true ∧ s.lot.queue.length ≤ 1 ∧
      ∀ l ∈ s.lot.queue.getLast?, l.toLoad = 0 := by
  unfold openRefusal at h
  split at h
  · cases h
  · rename_i h1
    split at h
    · cases h
    · rename_i h2
      split at h
      · cases h
      · rename_i h3
        split at h
        · cases h
        · rename_i h4
          refine ⟨by omega, by simpa using h2, by omega, fun l hl => ?_⟩
          rw [Option.mem_def.1 hl] at h4
          simpa using h4

theorem nextLotNumber_range (n : Nat) : 1 ≤ nextLotNumber n ∧ nextLotNumber n ≤ 255 := by
  unfold nextLotNumber
  split <;> omega

theorem LotsOk.opened {s : State} {x : LotOpenArgs} (h : LotsOk s.lot)
    (ho : openRefusal s x.recipe = none) : LotsOk (openedLots x s.lot) := by
  obtain ⟨⟨h1, h15⟩, -, hlen, hlast⟩ := openRefusal_none ho
  have h0 : ∀ l ∈ s.lot.queue, l.toLoad = 0 := fun l hl => by
    cases hq : s.lot.queue with
    | nil => simp [hq] at hl
    | cons m rest =>
      rw [hq, List.length_cons] at hlen
      obtain rfl : rest = [] := List.length_eq_zero_iff.1 (by omega)
      rw [hq, List.mem_singleton] at hl
      subst hl
      exact hlast l (by rw [hq]; rfl)
  have hnew : LotOk
      { number := s.lot.nextNumber, recipe := x.recipe, toLoad := clamp 1 9999 x.count, loaded := 0
        forged := 0, rejected := 0, lost := 0 } :=
    ⟨h.next.1, h.next.2, h1, h15, by dsimp only [clamp]; omega⟩
  have ha := h.append hlen h0 h.lots hnew
  exact { ha with next := nextLotNumber_range _ }

theorem AccountAct.lotsOk {s u : State} (ha : AccountAct s u) (h : LotsOk s.lot) : LotsOk u.lot := by
  cases ha with
  | kept _ _ hl => rwa [hl]
  | granted _ _ _ _ _ hl => rwa [hl]
  | applied p _ _ _ hl => rw [hl]; exact h.applied p
  | dropped _ _ hl => rw [hl]; exact h.tested _
  | purged _ _ hl => rw [hl]; exact (h.lost _).tested _
  | removed count hc b _ _ hl => rw [hl]; exact (h.counted hc b).tested _
  | opened x ho _ hl => rw [hl]; exact h.opened ho
  | newest l n hn hlast _ hl =>
    rw [hl]
    obtain ⟨h1, h2, h3, h4, -⟩ := h.lots l (List.mem_of_getLast? hlast)
    have hone : s.lot.queue.dropLast.length ≤ 1 := by
      have := h.two
      rw [List.length_dropLast]
      omega
    have hl' : LotOk { l with toLoad := n } := ⟨h1, h2, h3, h4, hn⟩
    exact (h.append hone h.older (fun m hm => h.lots m (List.dropLast_subset _ hm)) hl').tested _

/-! ### The account (R134, R135) -/

/-- What `LotLaw` says of the recipes and lots of the records, of the push, and of LOT. -/
structure AccountOk (bs : List (Nat × Nat)) (push : Option PendingPush) (x : Lots) : Prop where
  distinct : (x.queue.map (·.number)).Nodup
  zero : 0 ∉ x.queue.map (·.number)
  inLot : ∀ b ∈ bs, if b.1 = 0 then b.2 = 0 else b.2 ∈ x.queue.map (·.number)
  pushed : ∀ p ∈ push, if p.recipe = 0 then p.lot = 0 else p.lot ∈ x.queue.map (·.number)
  balanced : ∀ l ∈ x.queue, l.loaded = bs.countP (·.2 == l.number) + l.forged + l.rejected + l.lost
  closed : ∀ l ∈ x.lastClosed, l.toLoad = 0 ∧ l.loaded = l.forged + l.rejected + l.lost

theorem lotInTrack_eq (s : State) (n : Nat) : lotInTrack s n = (loads s.trk).countP (·.2 == n) := by
  unfold lotInTrack loads
  rw [List.map_append, List.countP_append, List.map_map, List.countP_map, List.countP_map, Nat.add_comm]
  rfl

theorem lotLaw_iff (s : State) : LotLaw s ↔ AccountOk (loads s.trk) s.trk.push s.lot := by
  have hin : (∀ b ∈ billets s, if b.recipe = 0 then b.lot = 0 else b.lot ∈ lotNumbers s) ↔
      ∀ b ∈ loads s.trk, if b.1 = 0 then b.2 = 0 else b.2 ∈ s.lot.queue.map (·.number) := by
    rw [loads_eq_billets, List.forall_mem_map]
    rfl
  constructor
  · rintro ⟨h1, h2, h3, h4, h5, h6⟩
    exact ⟨h1, h2, hin.1 h3, h4, fun l hl => by rw [h5 l hl, lotInTrack_eq], h6⟩
  · intro h
    exact ⟨h.distinct, h.zero, hin.2 h.inLot, h.pushed,
      fun l hl => by rw [lotInTrack_eq, ← h.balanced l hl], h.closed⟩

theorem lotEnds_iff (trk : Track) (l : Lot) :
    LotEnds trk l ↔
      l.toLoad = 0 ∧ (loads trk).countP (·.2 == l.number) = 0 ∧ ∀ p ∈ trk.push, p.lot ≠ l.number := by
  unfold LotEnds loads
  rw [List.countP_eq_zero]
  simp only [List.mem_map, List.mem_append, forall_exists_index, and_imp]
  constructor
  · rintro ⟨h0, hrow, hgate, hp⟩
    refine ⟨h0, ?_, hp⟩
    rintro _ b (⟨g, hg, rfl⟩ | hb) rfl
    · simpa using hgate g hg
    · simpa using hrow b hb
  · rintro ⟨h0, h, hp⟩
    exact ⟨h0, fun b hb => by simpa using h _ b (.inr hb) rfl,
      fun g hg => by simpa using h _ g.billet (.inl ⟨g, hg, rfl⟩) rfl, hp⟩

namespace AccountOk
variable {bs : List (Nat × Nat)} {push : Option PendingPush} {x : Lots}

theorem perm (h : AccountOk bs push x) {bs' : List (Nat × Nat)} (hp : bs'.Perm bs) :
    AccountOk bs' push x :=
  { h with
    inLot := fun b hb => h.inLot b (hp.subset hb)
    balanced := fun l hl => by rw [hp.countP_eq]; exact h.balanced l hl }

/-- A lot without billets in the track closes (R135). -/
theorem tested {trk : Track} (h : AccountOk (loads trk) trk.push x) :
    AccountOk (loads trk) trk.push (testedLots trk x) := by
  have hsub : (x.queue.filter fun l => decide (¬LotEnds trk l)).Sublist x.queue := List.filter_sublist
  have hmem : ∀ l ∈ x.queue, ¬LotEnds trk l →
      l.number ∈ (x.queue.filter fun l => decide (¬LotEnds trk l)).map (·.number) := fun l hl he =>
    List.mem_map_of_mem (List.mem_filter.2 ⟨hl, decide_eq_true he⟩)
  refine ⟨h.distinct.sublist (hsub.map _), fun h0 => h.zero ((hsub.map _).subset h0), fun b hb => ?_,
    fun p hp => ?_, fun l hl => h.balanced l (hsub.subset hl), fun l hl => ?_⟩
  · have hin := h.inLot b hb
    split at hin
    · rwa [if_pos ‹_›]
    · rw [if_neg ‹_›]
      obtain ⟨l, hl, hn⟩ := List.mem_map.1 hin
      rw [← hn]
      refine hmem l hl fun he => ?_
      have hzero := List.countP_eq_zero.1 ((lotEnds_iff trk l).1 he).2.1 b hb
      exact hzero (by simp [hn])
  · have hin := h.pushed p hp
    split at hin
    · rwa [if_pos ‹_›]
    · rw [if_neg ‹_›]
      obtain ⟨l, hl, hn⟩ := List.mem_map.1 hin
      rw [← hn]
      exact hmem l hl fun he => ((lotEnds_iff trk l).1 he).2.2 p hp hn.symm
  · have hor : l ∈ (endedLots trk x.queue).getLast?.or x.lastClosed := hl
    cases hlast : (endedLots trk x.queue).getLast? with
    | none =>
      rw [hlast] at hor
      exact h.closed l hor
    | some m =>
      rw [hlast] at hor
      cases hor
      obtain ⟨hm, he⟩ := List.mem_filter.1 (List.mem_of_getLast? hlast)
      obtain ⟨h0, hc, -⟩ := (lotEnds_iff trk l).1 (of_decide_eq_true he)
      have hb := h.balanced l hm
      rw [hc] at hb
      exact ⟨h0, by omega⟩

/-- Lots change where they stand, each keeping its number and its account. -/
theorem map (h : AccountOk bs push x) {bs' : List (Nat × Nat)} {push' : Option PendingPush}
    {f : Lot → Lot} (hn : ∀ l, (f l).number = l.number)
    (hin : ∀ b ∈ bs', if b.1 = 0 then b.2 = 0 else b.2 ∈ x.queue.map (·.number))
    (hp : ∀ p ∈ push', if p.recipe = 0 then p.lot = 0 else p.lot ∈ x.queue.map (·.number))
    (hb : ∀ l ∈ x.queue, (f l).loaded =
      bs'.countP (·.2 == l.number) + (f l).forged + (f l).rejected + (f l).lost) :
    AccountOk bs' push' { x with queue := x.queue.map f } := by
  have hnum : (x.queue.map f).map (·.number) = x.queue.map (·.number) := by
    rw [List.map_map]
    exact List.map_congr_left fun l _ => hn l
  refine ⟨hnum ▸ h.distinct, hnum ▸ h.zero, hnum ▸ hin, hnum ▸ hp, fun l hl => ?_, h.closed⟩
  obtain ⟨m, hm, rfl⟩ := List.mem_map.1 hl
  rw [hn]
  exact hb m hm

theorem number_ne_zero (h : AccountOk bs push x) {l : Lot} (hl : l ∈ x.queue) : l.number ≠ 0 := fun h0 =>
  h.zero (h0 ▸ List.mem_map_of_mem hl)

/-- A spacer counts for no lot. -/
theorem spacer_lot_ne (h : AccountOk bs push x) {b : Nat × Nat}
    (hb : if b.1 = 0 then b.2 = 0 else b.2 ∈ x.queue.map (·.number)) (h0 : b.1 = 0) {l : Lot} (hl : l ∈ x.queue) : b.2 ≠ l.number := by
  rw [if_pos h0] at hb
  rw [hb]
  exact (h.number_ne_zero hl).symm

theorem applied {p : PendingPush} (h : AccountOk bs (some p) x) :
    AccountOk ((p.recipe, p.lot) :: bs) none (appliedLots p x) := by
  have hp := h.pushed p rfl
  have hin : ∀ b ∈ (p.recipe, p.lot) :: bs,
      if b.1 = 0 then b.2 = 0 else b.2 ∈ x.queue.map (·.number) := fun b hb =>
    (List.mem_cons.1 hb).elim (fun he => he ▸ hp) (h.inLot b)
  have hnone : ∀ q ∈ (none : Option PendingPush),
      if q.recipe = 0 then q.lot = 0 else q.lot ∈ x.queue.map (·.number) := fun _ hq => (nomatch hq)
  unfold appliedLots
  split
  · rename_i h0
    refine { h with inLot := hin, pushed := hnone, balanced := fun l hl => ?_ }
    have hne : p.lot ≠ l.number := h.spacer_lot_ne (b := (p.recipe, p.lot)) hp h0 hl
    rw [List.countP_cons_of_neg (by simpa using hne)]
    exact h.balanced l hl
  · have hm := h.map (f := fun l =>
        if l.number = p.lot then { l with toLoad := l.toLoad - 1, loaded := l.loaded + 1 } else l)
      (fun l => by split <;> rfl) hin hnone fun l hl => by
        have hb := h.balanced l hl
        split
        · rename_i hn
          rw [List.countP_cons_of_pos (by simpa using hn.symm)]
          dsimp only
          omega
        · rename_i hn
          rw [List.countP_cons_of_neg (by simpa using Ne.symm hn)]
          exact hb
    exact { hm with }

theorem counted {count : Lot → Lot} (hc : count = Lot.forge ∨ count = Lot.reject) {b : Billet}
    (h : AccountOk ((b.recipe, b.lot) :: bs) push x) : AccountOk bs push (countedLots count b x) := by
  have hin : ∀ c ∈ bs, if c.1 = 0 then c.2 = 0 else c.2 ∈ x.queue.map (·.number) := fun c hc =>
    h.inLot c (List.mem_cons_of_mem _ hc)
  have hb := h.inLot (b.recipe, b.lot) List.mem_cons_self
  unfold countedLots
  split
  · rename_i h0
    refine { h with inLot := hin, balanced := fun l hl => ?_ }
    have hne : b.lot ≠ l.number := h.spacer_lot_ne (b := (b.recipe, b.lot)) hb h0 hl
    have hl' := h.balanced l hl
    rwa [List.countP_cons_of_neg (by simpa using hne)] at hl'
  · refine h.map (fun l => ?_) hin h.pushed fun l hl => ?_
    · split
      · obtain rfl | rfl := hc <;> rfl
      · rfl
    · have hl' := h.balanced l hl
      split
      · rename_i hn
        rw [List.countP_cons_of_pos (by simpa using hn.symm)] at hl'
        obtain rfl | rfl := hc
        · simp only [Lot.forge]; omega
        · simp only [Lot.reject]; omega
      · rename_i hn
        rwa [List.countP_cons_of_neg (by simpa using Ne.symm hn)] at hl'

theorem lost {trk : Track} (h : AccountOk (loads trk) push x) :
    AccountOk [] none (lostLots (trk.row ++ trk.gate.map (·.billet)) x) := by
  refine h.map (f := fun l =>
    { l with
      lost := l.lost + (trk.row ++ trk.gate.map (·.billet)).countP
        fun b => decide (b.recipe ≠ 0 ∧ b.lot = l.number) })
    (fun _ => rfl) (fun _ hb => (nomatch hb)) (fun _ hp => (nomatch hp)) fun l hl => ?_
  have hb := h.balanced l hl
  have hcount : (loads trk).countP (·.2 == l.number) =
      (trk.row ++ trk.gate.map (·.billet)).countP fun b => decide (b.recipe ≠ 0 ∧ b.lot = l.number) := by
    unfold loads
    rw [List.countP_map, (List.perm_append_comm (l₁ := trk.gate.map (·.billet))).countP_eq]
    refine List.countP_congr fun b hb => ?_
    have hin := h.inLot (b.recipe, b.lot)
      (List.mem_map_of_mem (f := fun b : Billet => (b.recipe, b.lot)) ((List.perm_append_comm).subset hb))
    have hne := fun h0 => h.spacer_lot_ne hin h0 hl
    simp only [Function.comp_apply, beq_iff_eq, decide_eq_true_eq]
    exact ⟨fun he => ⟨fun h0 => hne h0 he, he⟩, fun he => he.2⟩
  rw [hcount] at hb
  simp only [List.countP_nil]
  omega

theorem opened (h : AccountOk bs push x) (a : LotOpenArgs) (h0 : x.nextNumber ≠ 0)
    (hn : x.nextNumber ∉ x.queue.map (·.number)) : AccountOk bs push (openedLots a x) := by
  have hnum : (openedLots a x).queue.map (·.number) = x.queue.map (·.number) ++ [x.nextNumber] := by
    simp [openedLots]
  have hkeep : ∀ {r n : Nat}, (if r = 0 then n = 0 else n ∈ x.queue.map (·.number)) →
      if r = 0 then n = 0 else n ∈ x.queue.map (·.number) ++ [x.nextNumber] := fun hb => by
    split at hb
    · rwa [if_pos ‹_›]
    · rw [if_neg ‹_›]
      exact List.mem_append_left _ hb
  refine ⟨?_, ?_, fun b hb => ?_, fun p hp => ?_, fun l hl => ?_, h.closed⟩
  · rw [hnum]
    exact List.nodup_append.2 ⟨h.distinct, List.nodup_singleton _, fun m hm k hk he =>
      hn (by rw [← List.mem_singleton.1 hk, ← he]; exact hm)⟩
  · rw [hnum, List.mem_append, List.mem_singleton]
    exact fun hz => hz.elim h.zero fun hz => h0 hz.symm
  · rw [hnum]
    exact hkeep (h.inLot b hb)
  · rw [hnum]
    exact hkeep (h.pushed p hp)
  · obtain hl | hl := List.mem_append.1 (show l ∈ x.queue ++ [_] from hl)
    · exact h.balanced l hl
    · rw [List.mem_singleton.1 hl]
      have hnone : bs.countP (·.2 == x.nextNumber) = 0 := List.countP_eq_zero.2 fun b hb he => by
        have hin := h.inLot b hb
        rw [beq_iff_eq] at he
        split at hin
        · exact h0 (he.symm.trans hin)
        · exact hn (he ▸ hin)
      simp [hnone]

theorem newest (h : AccountOk bs push x) {l : Lot} (hl : x.queue.getLast? = some l) (n : Nat) :
    AccountOk bs push { x with queue := x.queue.dropLast ++ [{ l with toLoad := n }] } := by
  obtain ⟨older, hq⟩ : ∃ older, x.queue = older ++ [l] := ⟨_, (List.dropLast_append_getLast? l hl).symm⟩
  have hnum : (older ++ [{ l with toLoad := n }]).map Lot.number = x.queue.map Lot.number := by simp [hq]
  have hdrop : x.queue.dropLast = older := by simp [hq]
  rw [hdrop]
  refine ⟨hnum ▸ h.distinct, hnum ▸ h.zero, hnum ▸ h.inLot, hnum ▸ h.pushed, fun m hm => ?_, h.closed⟩
  obtain hm | hm := List.mem_append.1 hm
  · exact h.balanced m (by rw [hq]; exact List.mem_append_left _ hm)
  · rw [List.mem_singleton.1 hm]
    exact h.balanced l (List.mem_of_getLast? hl)

end AccountOk

theorem lotAdmits_spec {s : State} {recipe lot : Nat} (h : lotAdmits s recipe = .ok lot) :
    if recipe = 0 then lot = 0 else lot ∈ s.lot.queue.map (·.number) := by
  unfold lotAdmits at h
  split at h
  · rename_i h0
    cases h
    rw [if_pos h0]
  · rename_i h0
    rw [if_neg h0]
    split at h
    · cases h
    · rename_i l hl
      split at h
      · cases h
      · split at h
        · cases h
        · split at h
          · cases h
          · cases h
            exact List.mem_map_of_mem (List.mem_of_getLast? hl)

theorem AccountAct.accountOk {s u : State} (ha : AccountAct s u) (hs : LotsOk s.lot)
    (hn : s.lot.nextNumber ∉ s.lot.queue.map (·.number)) (h : AccountOk (loads s.trk) s.trk.push s.lot) :
    AccountOk (loads u.trk) u.trk.push u.lot := by
  cases ha with
  | kept ht hp hl => rwa [ht, hp, hl]
  | granted x lot hc ht hp hl =>
    rw [ht, hp, hl]
    obtain ⟨-, -, -, -, -, hadmit, -⟩ := pushChecks_ok hc
    exact { h with pushed := fun p hp => by cases hp; exact lotAdmits_spec hadmit }
  | applied p hsome ht hp hl =>
    rw [hsome] at h
    rw [hp, hl]
    exact h.applied.perm ht
  | dropped ht hp hl =>
    rw [hl]
    refine AccountOk.tested ?_
    rw [ht, hp]
    exact { h with pushed := fun _ hp => (nomatch hp) }
  | purged ht hp hl =>
    rw [hl]
    refine AccountOk.tested ?_
    rw [ht, hp]
    exact h.lost
  | removed count hc b ht hp hl =>
    rw [hl]
    refine AccountOk.tested ?_
    rw [hp]
    rw [ht] at h
    exact h.counted hc
  | opened x ho ht hl =>
    rw [ht, hl]
    have hnext := hs.next
    exact h.opened x (by omega) hn
  | newest l n hle hlast ht hl =>
    rw [hl]
    refine AccountOk.tested ?_
    rw [ht]
    exact h.newest hlast n

/-! ### The obligation -/

theorem reset_lotsInShape : LotsInShape State.reset :=
  (lotsInShape_iff _).2
    ⟨by simp [State.reset], fun _ h => (nomatch h), fun _ h => (nomatch h), by simp [State.reset],
      by simp [State.reset]⟩

theorem reset_lotLaw : LotLaw State.reset :=
  (lotLaw_iff _).2
    ⟨List.nodup_nil, fun h => (nomatch h), fun _ h => (nomatch h), fun _ h => (nomatch h),
      fun _ h => (nomatch h), fun _ h => (nomatch h)⟩

theorem act_keeps_lots {i : Instr} {s u : State} (ha : Act i s u) (h : LotsInShape s) : LotsInShape u :=
  (lotsInShape_iff _).2 (ha.account.lotsOk ((lotsInShape_iff _).1 h))

/-- The premise of the account: a shape of the queue with the next number free. -/
def Accounted (s : State) : Prop :=
  LotsInShape s ∧ s.lot.nextNumber ∉ lotNumbers s ∧ LotLaw s

/-- Settles O59: each act is one of `AccountAct`, which keeps the shape of the queue, and the account when the
next number is free. -/
theorem lotAccountKept : Obligations.LotAccountKept := by
  constructor
  · exact fun _ _ hs => step_keeps (P := LotsInShape) (fun _ _ _ => id) (fun _ _ => id)
      (fun _ _ _ hi => exec_keeps (fun _ _ => reset_lotsInShape) (fun _ _ => id)
        (fun _ _ _ => act_keeps_lots) hi) hs
  · intro i s t hi hshape hnext hlaw
    by_cases hreset : ∃ straps, i = .powerOnReset straps
    · obtain ⟨straps, rfl⟩ := hreset
      cases hi
      exact reset_lotLaw
    · obtain ⟨u, ha, hu⟩ := exec_act hi fun straps hp => hreset ⟨straps, hp⟩
      have hsettled : Accounted (settled i s) := by
        obtain hsame | hloses := (settled_spec i s).1
        · exact hsame.keeps (fun _ _ => id) ⟨hshape, hnext, hlaw⟩
        · refine hloses.keeps (P := Accounted) (fun _ _ => id) ?_
          obtain ⟨n, hn⟩ := loseReservation_eq s
          rw [hn]
          exact ⟨hshape, hnext, hlaw⟩
      obtain ⟨h1, h2, h3⟩ := hsettled
      exact hu.keeps (P := LotLaw) (fun _ _ => id) ((lotLaw_iff u).2
        (ha.account.accountOk ((lotsInShape_iff _).1 h1) h2 ((lotLaw_iff _).1 h3)))

end Sys2Proof.Machine
end

section
/-! PROOFS. The parameter space under every step: the fields of a recipe, the recipes in use, and the pointers
(R124 to R127). -/

namespace Sys2Proof.Machine

/-! ### The fields of a recipe by number (R124) -/

/-- The 23 fields of a recipe in the order of their numbers. -/
def fieldValues (f : RecipeFields) : List Nat :=
  [f.cap, f.surf, f.skin, f.cond, f.loss, f.lnom, f.tz.z1, f.tz.z2, f.tz.z3, f.tz.z4, f.tz.z5, f.tz.z6,
    f.tz.z7, f.tz.z8, f.tsLo, f.tsHi, f.tcMin, f.tsMax, f.holdT, f.holdH, f.maxDwell, f.spacers,
    f.acceptMeasured]

theorem recipeField_eq (f : RecipeFields) (n : Nat) : recipeField f n = (fieldValues f).getD n 0 := by
  unfold recipeField
  split
  case h_24 =>
    refine (List.getD_eq_default _ _ ?_).symm
    show 23 ≤ n
    simp only [imp_false] at *
    omega
  all_goals rfl

theorem fieldValues_set (f : RecipeFields) (n v : Nat) :
    fieldValues (setRecipeField f n v) = (fieldValues f).set n v := by
  unfold setRecipeField
  split
  case h_24 =>
    refine (List.set_eq_of_length_le ?_).symm
    show 23 ≤ n
    simp only [imp_false] at *
    omega
  all_goals rfl

/-- A field replaced reads as it was stored, and every other field as before. -/
theorem recipeField_setRecipeField (f : RecipeFields) (n v : Nat) {m : Nat} (hm : m < 23) :
    recipeField (setRecipeField f n v) m = if n = m then v else recipeField f m := by
  rw [recipeField_eq, recipeField_eq, fieldValues_set, List.getD_eq_getElem?_getD, List.getD_eq_getElem?_getD,
    List.getElem?_set]
  have hlen : m < (fieldValues f).length := hm
  split
  · rename_i h
    subst h
    simp [hlen]
  · rfl

theorem recipeField_foldl (g : Nat → Nat) (l : List Nat) (f : RecipeFields) {m : Nat} (hm : m < 23) :
    recipeField (l.foldl (fun acc n => setRecipeField acc n (g n)) f) m =
      if m ∈ l then g m else recipeField f m := by
  induction l generalizing f with
  | nil => simp
  | cons n rest ih =>
    rw [List.foldl_cons, ih, recipeField_setRecipeField _ _ _ hm]
    by_cases hr : m ∈ rest
    · simp [hr]
    · by_cases hn : n = m
      · subst hn; simp
      · simp [hr, hn, Ne.symm hn]

theorem recipeField_fitFields (f : RecipeFields) {n : Nat} (hn : n < 23) :
    recipeField (fitFields f) n = fitRecipeField n (recipeField f n) := by
  unfold fitFields
  rw [recipeField_foldl _ _ _ hn]
  simp [recipeFieldNumbers, hn]

theorem recipeRange_le (n : Nat) : (recipeRange n).1 ≤ (recipeRange n).2 := by
  unfold recipeRange
  split <;> decide

theorem fitRecipeField_range (n v : Nat) :
    (recipeRange n).1 ≤ fitRecipeField n v ∧ fitRecipeField n v ≤ (recipeRange n).2 :=
  le_clamp_le (recipeRange_le n)

/-! ### Validity (R125) -/

theorem findIdx?_false_eq_none (l : List Bool) :
    l.findIdx? (· == false) = none ↔ l.all id = true := by
  simp [List.findIdx?_eq_none_iff]

theorem validity_eq_zero_iff (r : Recipe) :
    r.validity = 0 ↔ r.written = BitVec.allOnes 23 ∧ relationsHold r.fields = true := by
  unfold Recipe.validity relationsHold
  rw [← findIdx?_false_eq_none]
  split
  · rename_i hw
    cases (relations r.fields).findIdx? (· == false) <;> simp [hw]
  · rename_i hw
    exact iff_of_false Nat.one_ne_zero fun h => hw h.1

/-! ### The recipes in use (R126) -/

/-- The numbers of the recipes in use. -/
theorem recipeInUse_iff (s : State) (n : Nat) :
    recipeInUse s n = true ↔
      (∃ m, (n, m) ∈ loads s.trk) ∨ (∃ p ∈ s.trk.push, p.recipe = n) ∨
        ∃ l ∈ s.lot.queue, l.recipe = n := by
  unfold recipeInUse loads
  have hpush : (s.trk.push.any fun p => p.recipe == n) = true ↔ ∃ p ∈ s.trk.push, p.recipe = n := by
    cases s.trk.push <;> simp
  simp only [Bool.or_eq_true, List.any_eq_true, beq_iff_eq, hpush]
  constructor
  · rintro (((⟨b, hb, rfl⟩ | ⟨g, hg, rfl⟩) | hp) | hl)
    · exact .inl ⟨b.lot, List.mem_map.2 ⟨b, List.mem_append_right _ hb, rfl⟩⟩
    · exact .inl ⟨g.billet.lot, List.mem_map.2 ⟨g.billet, List.mem_append_left _ (List.mem_map_of_mem hg), rfl⟩⟩
    · exact .inr (.inl hp)
    · exact .inr (.inr hl)
  · rintro (⟨m, hm⟩ | hp | hl)
    · obtain ⟨b, hb, he⟩ := List.mem_map.1 hm
      cases he
      obtain hb | hb := List.mem_append.1 hb
      · obtain ⟨g, hg, rfl⟩ := List.mem_map.1 hb
        exact .inl (.inl (.inr ⟨g, hg, rfl⟩))
      · exact .inl (.inl (.inl ⟨b, hb, rfl⟩))
    · exact .inl (.inr hp)
    · exact .inr hl

/-- A lot of the queue after an act was in it before, with its recipe, or has been opened. -/
theorem testedLots_recipes {trk : Track} {x : Lots} {l : Lot} (h : l ∈ (testedLots trk x).queue) :
    l ∈ x.queue := (List.mem_filter.1 h).1

/-- A recipe comes into use only while it is VALID (R13, R136). -/
theorem AccountAct.inUse {s u : State} (ha : AccountAct s u) {n : Nat} (h : recipeInUse u n = true) :
    recipeInUse s n = true ∨ recipeValid s n = true := by
  rw [recipeInUse_iff] at h ⊢
  have hmap : ∀ {f : Lot → Lot} (_ : ∀ l, (f l).recipe = l.recipe) {l : Lot},
      l ∈ s.lot.queue.map f → ∃ m ∈ s.lot.queue, m.recipe = l.recipe := fun hf l hl => by
    obtain ⟨m, hm, rfl⟩ := List.mem_map.1 hl
    exact ⟨m, hm, (hf m).symm⟩
  cases ha with
  | kept ht hp hl =>
    rw [ht, hp, hl] at h
    exact .inl h
  | granted x lot hc ht hp hl =>
    rw [ht, hp, hl] at h
    obtain hr | ⟨p, hp, rfl⟩ | hq := h
    · exact .inl (.inl hr)
    · cases hp
      obtain ⟨-, -, -, -, hv, -⟩ := pushChecks_ok hc
      exact .inr hv
    · exact .inl (.inr (.inr hq))
  | applied p hsome ht hp hl =>
    rw [hp, hl] at h
    obtain ⟨m, hm⟩ | ⟨q, hq, -⟩ | ⟨l, hq, rfl⟩ := h
    · obtain he | hm := List.mem_cons.1 (ht.subset hm)
      · cases he
        exact .inl (.inr (.inl ⟨p, hsome, rfl⟩))
      · exact .inl (.inl ⟨m, hm⟩)
    · cases hq
    · unfold appliedLots at hq
      split at hq
      · exact .inl (.inr (.inr ⟨l, hq, rfl⟩))
      · exact .inl (.inr (.inr (hmap (fun l => by split <;> rfl) hq)))
  | dropped ht hp hl =>
    rw [ht, hp, hl] at h
    obtain hr | ⟨q, hq, -⟩ | ⟨l, hq, rfl⟩ := h
    · exact .inl (.inl hr)
    · cases hq
    · exact .inl (.inr (.inr ⟨l, testedLots_recipes hq, rfl⟩))
  | purged ht hp hl =>
    rw [ht, hp, hl] at h
    obtain ⟨m, hm⟩ | ⟨q, hq, -⟩ | ⟨l, hq, rfl⟩ := h
    · cases hm
    · cases hq
    · have hq' := testedLots_recipes hq
      unfold lostLots at hq'
      exact .inl (.inr (.inr (hmap (fun _ => by rfl) hq')))
  | removed count hc b ht hp hl =>
    rw [hp, hl] at h
    obtain ⟨m, hm⟩ | hq | ⟨l, hq, rfl⟩ := h
    · exact .inl (.inl ⟨m, by rw [ht]; exact List.mem_cons_of_mem _ hm⟩)
    · exact .inl (.inr (.inl hq))
    · have hq' := testedLots_recipes hq
      simp only [countedLots] at hq'
      split at hq'
      · exact .inl (.inr (.inr ⟨l, hq', rfl⟩))
      · refine .inl (.inr (.inr (hmap (fun l => ?_) hq')))
        split
        · obtain rfl | rfl := hc <;> rfl
        · rfl
  | opened x ho ht hl =>
    rw [ht, hl] at h
    obtain hr | hp | ⟨l, hq, rfl⟩ := h
    · exact .inl (.inl hr)
    · exact .inl (.inr (.inl hp))
    · obtain hq | hq := List.mem_append.1 (show l ∈ s.lot.queue ++ [_] from hq)
      · exact .inl (.inr (.inr ⟨l, hq, rfl⟩))
      · rw [List.mem_singleton.1 hq]
        exact .inr (openRefusal_none ho).2.1
  | newest m n _ hlast ht hl =>
    rw [hl, ht] at h
    obtain hr | hp | ⟨l, hq, rfl⟩ := h
    · exact .inl (.inl hr)
    · exact .inl (.inr (.inl hp))
    · obtain hq | hq := List.mem_append.1 (testedLots_recipes hq)
      · exact .inl (.inr (.inr ⟨l, List.dropLast_subset _ hq, rfl⟩))
      · rw [List.mem_singleton.1 hq]
        exact .inl (.inr (.inr ⟨m, List.mem_of_getLast? hlast, rfl⟩))

/-! ### The recipes under every act -/

/-- What `RecipesGuarded` says but for the pointers. -/
structure RecipesOk (s : State) : Prop where
  used : ∀ n, recipeInUse s n = true → n ≤ 15 ∧ recipeValidity s n = 0
  count : s.pst.recipes.length = 15
  fields : ∀ r ∈ s.pst.recipes, r.fieldsInRange

theorem recipesGuarded_iff (s : State) :
    RecipesGuarded s ↔ RecipesOk s ∧ ∀ st, (s.links.get st).pointer.named = true :=
  ⟨fun ⟨h1, h2, h3, h4⟩ => ⟨⟨h1, h2, h3⟩, h4⟩, fun ⟨h, h4⟩ => ⟨h.used, h.count, h.fields, h4⟩⟩

theorem recipeValid_iff (s : State) (n : Nat) :
    recipeValid s n = true ↔ n ≤ 15 ∧ recipeValidity s n = 0 := by
  simp [recipeValid]

theorem recipeValidity_congr {s u : State} (h : u.pst.recipes = s.pst.recipes) (n : Nat) :
    recipeValidity u n = recipeValidity s n := by
  unfold recipeValidity
  rw [h]

/-- An act that leaves the recipes as they are brings none into use that is not VALID. -/
theorem RecipesOk.of_account {s u : State} (h : RecipesOk s) (ha : AccountAct s u)
    (hr : u.pst.recipes = s.pst.recipes) : RecipesOk u :=
  { used := fun n hn => by
      rw [recipeValidity_congr hr]
      obtain hn | hn := ha.inUse hn
      · exact h.used n hn
      · exact (recipeValid_iff s n).1 hn
    count := by rw [hr]; exact h.count
    fields := by rw [hr]; exact h.fields }

/-- A recipe stored reads as it was stored, and every other as before. -/
theorem storeRecipe_validity {s : State} {n m : Nat} (hn : 1 ≤ n) (h15 : n ≤ 15) (hl : s.pst.recipes.length = 15)
    (r : Recipe) (hm : m ≤ 15) :
    recipeValidity (storeRecipe n r s) m = if m = n then r.validity else recipeValidity s m := by
  unfold recipeValidity storeRecipe
  simp only [State.withPst_pst]
  by_cases h0 : m = 0
  · rw [if_pos h0, if_neg (by omega), if_pos h0]
  · rw [if_neg h0, if_neg h0, List.getD_eq_getElem?_getD, List.getD_eq_getElem?_getD, List.getElem?_set]
    by_cases he : m = n
    · subst he
      rw [if_pos rfl, if_pos rfl, if_pos (by omega)]
      rfl
    · rw [if_neg he, if_neg (by omega)]

theorem RecipesOk.store {s : State} (h : RecipesOk s) {n : Nat} (hn : 1 ≤ n) (h15 : n ≤ 15) {r : Recipe}
    (hf : r.fieldsInRange) (hv : recipeInUse s n = true → r.validity = 0) :
    RecipesOk (storeRecipe n r s) where
  used m hm := by
    obtain ⟨hm15, hval⟩ := h.used m hm
    refine ⟨hm15, ?_⟩
    rw [storeRecipe_validity hn h15 h.count r hm15]
    split
    · rename_i he
      exact hv (he ▸ hm)
    · exact hval
  count := by simpa [storeRecipe] using h.count
  fields x hx := by
    obtain hx | rfl := List.mem_or_eq_of_mem_set hx
    · exact h.fields x hx
    · exact hf

theorem reset_fieldsInRange : Recipe.reset.fieldsInRange := fun m hm => by
  rw [if_neg (by simp [Recipe.reset])]
  interval_cases m <;> rfl

theorem getD_fieldsInRange {s : State} (h : RecipesOk s) (n : Nat) :
    (s.pst.recipes.getD n .reset).fieldsInRange := by
  by_cases hn : n < s.pst.recipes.length
  · rw [List.getD_eq_getElem _ _ hn]
    exact h.fields _ (List.getElem_mem hn)
  · rw [List.getD_eq_default _ _ (by omega)]
    exact reset_fieldsInRange

theorem loaded_fieldsInRange (f : RecipeFields) :
    Recipe.fieldsInRange { fields := fitFields f, written := BitVec.allOnes 23 } := fun n hn => by
  rw [if_pos (by rw [BitVec.getLsbD_allOnes]; simpa using hn), recipeField_fitFields f hn]
  exact fitRecipeField_range n _

/-- Bit `n` set beside those set before. -/
theorem getLsbD_or_one_shiftLeft {w m n : Nat} (x : BitVec w) (hm : m < w) :
    (x ||| (1#w <<< n)).getLsbD m = (x.getLsbD m || decide (m = n)) := by
  rw [BitVec.getLsbD_or, BitVec.getLsbD_shiftLeft, BitVec.getLsbD_one]
  congr 1
  rw [Bool.eq_iff_iff]
  simp
  omega

/-- A field stored in its range with its written mark (R130). -/
theorem deposited_fieldsInRange {r : Recipe} (h : r.fieldsInRange) {n v : Nat}
    (hv : (recipeRange n).1 ≤ v ∧ v ≤ (recipeRange n).2) :
    Recipe.fieldsInRange
      { fields := setRecipeField r.fields n v, written := r.written ||| (1#23 <<< n) } := fun m hm => by
  have hr := h m hm
  dsimp only
  rw [getLsbD_or_one_shiftLeft _ hm, recipeField_setRecipeField _ _ _ hm]
  by_cases he : n = m
  · subst he
    simpa using hv
  · simpa [he, Ne.symm he] using hr

/-! ### The pointers (R127) -/

theorem named_iff (a : FieldAddress) : a.named = true ↔ a.field < fieldCount a.table a.record := by
  simp [FieldAddress.named]

/-- How many fields each record has (R123). -/
theorem lt_fieldCount_iff (table record field : Nat) :
    field < fieldCount table record ↔
      (table = 0 ∧ record = 0 ∧ field < 4) ∨ (table = 1 ∧ 1 ≤ record ∧ record ≤ 8 ∧ field < 8) ∨
        (table = 2 ∧ record ≤ 1 ∧ field < 3) ∨ (table = 3 ∧ record ≤ 15 ∧ field < 25) := by
  unfold fieldCount
  split
  case h_5 =>
    simp only [imp_false] at *
    omega
  all_goals split <;> omega

theorem after_named {p a : FieldAddress} (h : p.after = some a) : a.named = true := by
  rw [named_iff]
  unfold FieldAddress.after at h
  split at h
  · cases h
    assumption
  · split at h
    · cases h
      assumption
    · split at h
      · cases h
        have : p.table = 0 ∨ p.table = 1 ∨ p.table = 2 := by omega
        obtain ht | ht | ht := this <;> rw [ht] <;> decide
      · cases h

theorem before_named {p a : FieldAddress} (hp : p.named = true) (h : p.before = some a) :
    a.named = true := by
  rw [named_iff, lt_fieldCount_iff] at hp ⊢
  unfold FieldAddress.before at h
  split at h
  · cases h
    dsimp only
    omega
  · split at h
    · rename_i hlt
      cases h
      dsimp only
      have hlast : lastFieldOf 0 = 3 ∧ lastFieldOf 1 = 7 ∧ lastFieldOf 2 = 2 ∧ lastFieldOf 3 = 24 := by decide
      have hfirst : firstRecord 0 = 0 ∧ firstRecord 1 = 1 ∧ firstRecord 2 = 0 ∧ firstRecord 3 = 0 := by decide
      have ht : p.table = 0 ∨ p.table = 1 ∨ p.table = 2 ∨ p.table = 3 := by omega
      obtain ht | ht | ht | ht := ht <;> simp only [ht, hlast, hfirst, true_and] at hp hlt ⊢ <;> omega
    · split at h
      · cases h
        have ht : p.table = 1 ∨ p.table = 2 ∨ p.table = 3 := by omega
        obtain ht | ht | ht := ht <;> rw [ht] <;> decide
      · cases h

/-- What an address form gives against a pointer at a field is a field. -/
theorem resolve_named {p a : FieldAddress} {form : AddressForm} (hp : p.named = true)
    (h : resolve p form = some a) : a.named = true := by
  unfold resolve at h
  split at h
  · dsimp only at h
    split at h
    · cases h
      assumption
    · cases h
  · exact after_named h
  · exact before_named hp h
  · cases h
    exact hp
  · cases h

theorem LinkOp.pointer_named (st : Station) (l m : Link) (ho : LinkOp st l m) (h : l.pointer.named = true) :
    m.pointer.named = true := by
  cases ho with
  | completes e a r => rwa [(complete_answer_pointer st e a r l).2]
  | told => rwa [takeNext_pointer]
  | breaks => rfl
  | accepts => rwa [takeNext_pointer]
  | sent => rwa [takeNext_pointer]
  | points form a ha => exact resolve_named h ha
  | _ => exact h

/-! ### The parameter space under every act -/

theorem handOver_pst {s : State} {count : Lot → Lot} {g : GateBillet} (hg : gateFront s = some g) :
    (handOver count g.billet s).pst = s.pst := by
  obtain ⟨-, -, -, -, -, hrest⟩ := handOver_spec count g _ s (gateFront_eq_some hg)
  simpa using congrArg State.pst hrest

/-- The acts that leave the parameter space as it is. -/
theorem Act.pst {i : Instr} {s u : State} (ha : Act i s u) :
    u.pst = s.pst ∨
      (∃ (st : Station) (x : DepositArgs) (a : FieldAddress), resolve (pointer s st) x.address = some a ∧
        depositRefusal s a (fitField s a x.value) = none ∧ u = storeField a (fitField s a x.value) s) ∨
      ∃ n f, n ≠ 0 ∧ n ≤ 15 ∧ recipeInUse s n = false ∧
        u = storeRecipe n { fields := fitFields f, written := BitVec.allOnes 23 } s := by
  cases ha with
  | deposit st x _ a h h' => exact .inr (.inl ⟨st, x, a, h, h', rfl⟩)
  | loadRecipe st x _ h0 h15 h => exact .inr (.inr ⟨x.slot, x.fields, h0, h15, h, rfl⟩)
  | loses =>
    obtain ⟨n, he⟩ := loseReservation_eq s
    exact .inl (by rw [he]; rfl)
  | pushDone st x _ p =>
    obtain ⟨trk, evu, lot, he⟩ := applyPush_eq p .tracked s
    exact .inl (by rw [he]; rfl)
  | slips =>
    obtain ⟨n, he⟩ := enterUncertain_eq s
    exact .inl (by rw [he]; rfl)
  | pushCancel =>
    obtain ⟨l, n, he⟩ := dropPush_eq s
    exact .inl (by rw [he]; rfl)
  | resyncNotApplied =>
    unfold Machine.resyncNotApplied
    obtain ⟨l, n, he⟩ :=
      dropPush_eq (s.withTrk { s.trk with generation := nextGeneration s.trk.generation })
    exact .inl (by rw [dispatcherUnblocks_spec, he]; rfl)
  | resyncApplied st _ p =>
    obtain ⟨trk, evu, lot, he⟩ := applyPush_eq p .untracked s
    exact .inl (by rw [dispatcherUnblocks_spec, he]; rfl)
  | purge => exact .inl (by simpa using congrArg State.pst (purgeTrack_spec s).rest)
  | take _ _ _ _ _ _ _ hg => exact .inl (handOver_pst hg)
  | discard _ _ _ _ _ hg => exact .inl (handOver_pst hg)
  | newestLoad _ n =>
    obtain ⟨l, ntc, he⟩ := setNewestLoad_eq n s
    exact .inl (by rw [he]; rfl)
  | permitLost => exact .inl (dispatchExpires_onlyDispatch _).pst
  | dispatchExpiry => exact .inl (dispatchExpires_onlyDispatch s).pst
  | inverterReply _ r => exact .inl (takeReply_onlyIlc r s).pst
  | windowCloses => exact .inl (closeWindow_onlyIlc s).pst
  | round _ r => exact .inl (takeRound_onlyFront r s).pst
  | correction _ c => exact .inl (takeCorrection_onlyFront c s).pst
  | samples _ src bytes => exact .inl (receiveSample_onlyVerdict src bytes s).pst
  | hunts _ src => exact .inl (setPyro_onlyVerdict src _ s).pst
  | settles => exact .inl (settleExpires_onlyFront s).pst
  | waits => exact .inl (waitExpires_onlyFront s).pst
  | _ => exact .inl rfl

/-! ### The recipes under every act -/

/-- What a deposit that passes the checks finds: a writable field, and for a locked field a recipe that is not
in use, for any other recipe field the relations (R129). -/
theorem depositRefusal_none {s : State} {a : FieldAddress} {v : Nat} (h : depositRefusal s a v = none) :
    readOnlyField a = false ∧
      (a.table = 3 → recipeInUse s a.record = true →
        recipeLive a.field = true ∧
          relationsHold (setRecipeField (recipeFields s a.record) a.field v) = true) ∧
      (a.table = 1 → a.field = 0 → trackEmpty s = true) := by
  unfold depositRefusal at h
  split at h
  · cases h
  · split at h
    · cases h
    · split at h
      · cases h
      · split at h
        · cases h
        · rename_i hro hlive hlen hrel
          simp only [Bool.not_eq_true', not_and, Bool.not_eq_true, Bool.not_eq_false] at hro hlive hlen hrel
          refine ⟨hro, fun ht hu => ⟨?_, hrel ht hu⟩, hlen⟩
          by_contra hl
          exact absurd hu (by simp [hlive ht (by simpa using hl)])

theorem deposit_recipesOk {s : State} (hs : RecipesOk s) {a : FieldAddress} {v : Nat} (ha : a.named = true)
    (hr : a.table = 3 → (recipeRange a.field).1 ≤ v ∧ v ≤ (recipeRange a.field).2)
    (h : depositRefusal s a v = none) (hacc : AccountAct s (storeField a v s)) :
    RecipesOk (storeField a v s) := by
  obtain ⟨hwrite, hused, -⟩ := depositRefusal_none h
  have hn := (lt_fieldCount_iff ..).1 ((named_iff a).1 ha)
  by_cases ht : a.table = 3
  · obtain ⟨table, record, field⟩ := a
    subst ht
    have hro : record ≠ 0 ∧ field < 23 := by simpa [readOnlyField] using hwrite
    dsimp only at hn
    refine hs.store (n := record) (by omega) (by omega) (deposited_fieldsInRange (getD_fieldsInRange hs _) (hr rfl))
      fun hu => ?_
    obtain ⟨-, hrel⟩ := hused rfl hu
    obtain ⟨-, hval⟩ := hs.used record hu
    rw [recipeFields, if_neg hro.1] at hrel
    rw [recipeValidity, if_neg hro.1, validity_eq_zero_iff] at hval
    rw [validity_eq_zero_iff]
    refine ⟨?_, hrel⟩
    rw [hval.1]
    exact BitVec.eq_of_getLsbD_eq fun i hi => by
      rw [getLsbD_or_one_shiftLeft _ hi, BitVec.getLsbD_allOnes]
      simp [hi]
  · refine hs.of_account hacc ?_
    unfold storeField
    split
    · split <;> rfl
    · dsimp only
      split
      · unfold lowerPositionA
        split <;> rfl
      · rfl
    · split
      · rfl
      · split <;> rfl
    · simp only [imp_false] at *
      omega

theorem act_keeps_recipesOk {i : Instr} {s u : State} (ha : Act i s u)
    (hp : ∀ st, (pointer s st).named = true) (hs : RecipesOk s) : RecipesOk u := by
  obtain hpst | ⟨st, x, a, hres, h, rfl⟩ | ⟨n, f, h0, h15, h, rfl⟩ := ha.pst
  · exact hs.of_account ha.account (by rw [hpst])
  · refine deposit_recipesOk hs (resolve_named (hp st) hres) (fun ht => ?_) h ha.account
    rw [fitField, ht]
    exact fitRecipeField_range ..
  · exact hs.store (by omega) h15 (loaded_fieldsInRange f) fun hu => by rw [h] at hu; cases hu

theorem reset_recipesGuarded : RecipesGuarded State.reset := by
  refine (recipesGuarded_iff _).2 ⟨⟨fun n h => ?_, by decide, fun r hr => ?_⟩, fun st => by cases st <;> decide⟩
  · simp [recipeInUse, State.reset] at h
  · rw [List.eq_of_mem_replicate hr]
    exact reset_fieldsInRange

theorem exec_keeps_recipes {i : Instr} {s t : State} (h : exec i s = .next t) (hs : RecipesGuarded s) :
    RecipesGuarded t := by
  by_cases hi : ∃ straps, i = .powerOnReset straps
  · obtain ⟨straps, rfl⟩ := hi
    cases h
    exact reset_recipesGuarded
  · have hno := fun straps hp => hi ⟨straps, hp⟩
    obtain ⟨hok, hptr⟩ := (recipesGuarded_iff s).1 hs
    obtain ⟨u, ha, hu⟩ := exec_act h hno
    obtain ⟨hst, hpt⟩ := settled_spec i s
    have hsettled : RecipesOk (settled i s) := by
      obtain hsame | hloses := hst
      · exact hsame.keeps (P := RecipesOk) (fun _ _ h => { h with }) hok
      · refine hloses.keeps (P := RecipesOk) (fun _ _ h => { h with }) ?_
        exact act_keeps_recipesOk (.loses i s) hptr hok
    refine (recipesGuarded_iff t).2 ⟨hu.keeps (P := RecipesOk) (fun _ _ h => { h with }) ?_, ?_⟩
    · exact act_keeps_recipesOk ha (fun st => by rw [hpt]; exact hptr st) hsettled
    · exact (exec_links h hno).keeps (P := fun _ l => l.pointer.named = true) LinkOp.pointer_named hptr

/-- Settles O58: a recipe comes into use only while it is VALID, a deposit keeps a recipe in use VALID, and
each operation of a unit keeps its pointer at a field. -/
theorem stepKeepsRecipes : Obligations.StepKeepsRecipes := fun _ _ hs =>
  step_keeps (P := RecipesGuarded) (fun _ _ _ => id) (fun _ _ => id) (fun _ _ _ => exec_keeps_recipes) hs

end Sys2Proof.Machine
end

section
/-! PROOFS. Reset, the step, and the items that change only by rows of their own. -/

namespace Sys2Proof.Machine

/-! ### The step and reset -/

/-- Settles O1: the step takes the front of the queue. -/
theorem stepRunsFrontCommand : Obligations.StepRunsFrontCommand := fun s c rest h => by
  unfold step
  rw [h]

/-- Settles O4: each relation holds of the reset values. -/
theorem resetIsSafe : Obligations.ResetIsSafe :=
  ⟨{ push := reset_pushMatchesState
     tags := reset_tagsDistinct
     records := reset_recordsInRange
     positions := reset_positionsKept
     capacity := reset_capacityKept
     gate := reset_gateTimed
     dispatcher := reset_dispatcherSafe
     zones := reset_zonesConsistent
     recipes := reset_recipesGuarded
     lots := reset_lotsInShape
     links := reset_linksConsistent
     inputs := reset_inputsConsistent }, reset_lotLaw⟩

theorem recipeField_zero (n : Nat) : recipeField zeroFields n = 0 := by
  unfold recipeField
  split <;> rfl

theorem strapAddress_eq (straps : BitVec 4) :
    strapAddress straps = if straps = 0 then 1 else straps.toNat := by
  revert straps
  decide

/-- Settles O3: the reset value, item by item. -/
theorem powerOnResetValues : Obligations.PowerOnResetValues := fun straps s => by
  refine ⟨powerOn straps s, rfl, rfl, rfl, rfl, rfl, strapAddress_eq straps, rfl, rfl, rfl, ⟨rfl, rfl, ?_⟩, ?_,
    ⟨rfl, rfl, rfl, rfl, rfl, rfl, fun r hr => ?_⟩, ⟨rfl, rfl⟩, rfl, rfl, rfl, ?_, ?_, ?_, ?_, ?_⟩
  · exact fun z => by cases z <;> exact ⟨rfl, rfl, rfl⟩
  · exact fun z => by cases z <;> rfl
  · rw [List.eq_of_mem_replicate hr]
    exact ⟨rfl, recipeField_zero⟩
  · exact fun st => by cases st <;> exact ⟨rfl, rfl⟩
  · show (0x065 : KindSet) = _
    decide
  · show (0x185 : KindSet) = _
    decide
  · intro k
    show (0xFFF : KindSet) &&& k.bit = k.bit
    revert k
    exact fun k => by cases k <;> decide
  · exact fun st => by cases st <;> exact ⟨rfl, rfl, rfl, rfl, rfl, rfl, rfl⟩

/-! ### The step on an empty queue -/

theorem dueTimer_none {s : State} (h : dueTimer s = none) :
    s.ms < s.dsp.timerExpiry ∧ due s s.trk.timer = false ∧ due s s.evu.settle = false ∧
      due s s.evu.wait = false ∧ due s (s.phu.map (·.lapse)) = false := by
  unfold dueTimer at h
  split at h
  · cases h
  · split at h
    · cases h
    · split at h
      · cases h
      · split at h
        · cases h
        · split at h
          · cases h
          · simp_all

theorem lt_of_not_due {s : State} {expiry : Option Nat} (h : due s expiry = false) : ∀ e ∈ expiry, s.ms < e := by
  rintro e he
  rw [Option.mem_def.1 he, due_some] at h
  simpa using h

theorem underExecution_none {s : State} {st : Station} :
    underExecution s st = none ↔ (s.links.get st).executing = none := by
  simp [underExecution]

theorem handedWork_none {s : State} (h : handedWork s = none) : ∀ st, (s.links.get st).executing = none := by
  unfold handedWork at h
  split at h
  · cases h
  · simp only [Option.or_eq_none_iff, underExecution_none] at h
    obtain ⟨hp, hl, hs, -⟩ := h
    exact fun st => by cases st <;> assumption

/-- Settles O2: the step's equation on an empty queue, and what it means that no own event is due. -/
theorem idleStepTicks : Obligations.IdleStepTicks := fun s hq => by
  have hstep : step s = idleStep s := by
    unfold step
    rw [hq]
  rw [hstep]
  unfold idleStep
  refine ⟨fun c hc => by rw [hc], fun hno => ?_⟩
  rw [hno]
  obtain ⟨hwork, hdue⟩ := Option.or_eq_none_iff.1 hno
  obtain ⟨hdsp, htrk, hsettle, hwait, hlapse⟩ := dueTimer_none hdue
  refine ⟨⟨tick s, rfl, rfl, rfl, rfl⟩, hdsp, lt_of_not_due htrk, lt_of_not_due hsettle, lt_of_not_due hwait,
    fun r hr => ?_, handedWork_none hwork⟩
  exact lt_of_not_due hlapse _ (Option.mem_map_of_mem (·.lapse) hr)

/-! ### What the operations do to the notices -/

/-- No kind leaves a set, and masks and snapshots stay. -/
structure NoticesGrow (n m : PerStation Notices) : Prop where
  kept : ∀ st, (m.get st).mask = (n.get st).mask ∧ (m.get st).snapshot = (n.get st).snapshot ∧
    (m.get st).pending &&& (n.get st).pending = (n.get st).pending

theorem NoticesGrow.refl (n : PerStation Notices) : NoticesGrow n n := ⟨fun st => ⟨rfl, rfl, by simp⟩⟩

theorem NoticesGrow.of_eq {s t : State} (h : t.ntc = s.ntc) : NoticesGrow s.ntc t.ntc := by
  rw [h]
  exact .refl _

theorem Raises.grow {kinds : KindSet} {n m : PerStation Notices} (h : Raises kinds n m) : NoticesGrow n m where
  kept st := by
    obtain ⟨hp, hm, hs⟩ := h st
    refine ⟨hm, hs, ?_⟩
    rw [hp]
    ext i
    simp
    tauto

theorem LinkErrorOnly.grow {st : Station} {n m : PerStation Notices} (h : LinkErrorOnly st n m) :
    NoticesGrow n m := ⟨fun other => by
  by_cases ho : other = st
  · subst ho
    rw [h.1]
    refine ⟨rfl, rfl, ?_⟩
    ext i
    simp [Notices.add]
    tauto
  · rw [h.2 other ho]
    exact (NoticesGrow.refl n).kept other⟩

theorem NoticesGrow.trans {n m l : PerStation Notices} (h : NoticesGrow n m) (h' : NoticesGrow m l) :
    NoticesGrow n l := ⟨fun st => by
  obtain ⟨hm, hs, hp⟩ := h.kept st
  obtain ⟨hm', hs', hp'⟩ := h'.kept st
  refine ⟨hm'.trans hm, hs'.trans hs, ?_⟩
  calc (l.get st).pending &&& (n.get st).pending
      = (l.get st).pending &&& ((m.get st).pending &&& (n.get st).pending) := by rw [hp]
    _ = ((l.get st).pending &&& (m.get st).pending) &&& (n.get st).pending := by rw [BitVec.and_assoc]
    _ = (n.get st).pending := by rw [hp', hp]⟩

theorem raise_grow (k : Notice) (s : State) : NoticesGrow s.ntc (raise k s).ntc := (raise_spec k s).1.grow

theorem raiseIf_grow (b : Bool) (k : Notice) (s : State) : NoticesGrow s.ntc (raiseIf b k s).ntc :=
  (raiseIf_spec b k s).1.grow

theorem storeZone_grow (z : ZoneNo) (r : ZoneRecord) (s : State) : NoticesGrow s.ntc (storeZone z r s).ntc :=
  (storeZone_spec z r s).2.1.grow

theorem missedReply_grow (z : ZoneNo) (b : Bool) (s : State) : NoticesGrow s.ntc (missedReply z b s).ntc := by
  have h : NoticesGrow s.ntc (s.withIlc (s.ilc.decide z .void false b)).ntc := .of_eq rfl
  exact h.trans (storeZone_grow z (s.zones.get z).miss _)

theorem goodReply_grow (z : ZoneNo) (st : ChannelStatus) (r : InverterFrame) (s : State) :
    NoticesGrow s.ntc (goodReply z st r s).ntc := by
  have h : NoticesGrow s.ntc (s.withIlc (s.ilc.decide z (.energy r.energy) true true)).ntc := .of_eq rfl
  exact (h.trans (storeZone_grow z ((s.zones.get z).goodReply st r.meanPower) _)).trans (raiseIf_grow ..)

theorem nextPoll_ntc (rd : Round) (s : State) : (nextPoll rd s).ntc = s.ntc := by
  unfold nextPoll
  split
  · rfl
  · unfold completeRound
    dsimp only
    split <;> rfl

theorem takeReply_grow (r : InverterFrame) (s : State) : NoticesGrow s.ntc (takeReply r s).ntc := by
  obtain h | ⟨rd, -, h | h | ⟨st, h⟩⟩ := takeReply_cases r s <;> rw [h]
  · exact .refl _
  · exact .of_eq rfl
  · rw [nextPoll_ntc]
    exact missedReply_grow ..
  · rw [nextPoll_ntc]
    exact goodReply_grow ..

theorem closeWindow_grow (s : State) : NoticesGrow s.ntc (closeWindow s).ntc := by
  obtain h | ⟨rd, -, h⟩ := closeWindow_cases s <;> rw [h]
  · exact .refl _
  · rw [nextPoll_ntc]
    exact missedReply_grow ..

theorem reevaluate_grow (s : State) : NoticesGrow s.ntc (reevaluate s).ntc := by
  obtain h | ⟨g, rest, n, -, -, -, h, hn⟩ := reevaluate_cases s <;> rw [h]
  · exact .refl _
  · exact hn.grow

theorem setGateFront_ntc (g : GateBillet) (s : State) : (setGateFront g s).ntc = s.ntc := by
  unfold setGateFront
  split <;> rfl

theorem decideFirst_grow (s : State) : NoticesGrow s.ntc (decideFirst s).ntc := by
  unfold decideFirst
  split
  · exact .refl _
  · refine NoticesGrow.trans ?_ (raise_grow ..)
    exact .of_eq (setGateFront_ntc ..)

theorem noteExit_ntc (m : Option Nat) (s : State) : (noteExit m s).ntc = s.ntc := by
  rw [noteExit_eq]
  rfl

theorem correctFront_ntc (m : Option Nat) (s : State) : (correctFront m s).ntc = s.ntc := by
  obtain ⟨gate, h, -⟩ := correctFront_eq m s
  rw [h]
  rfl

theorem afterExit_grow (m : Option Nat) (s : State) : NoticesGrow s.ntc (afterExit m s).ntc := by
  have hn := noteExit_ntc m s
  unfold afterExit
  split
  · exact .refl _
  · exact .refl _
  · exact (NoticesGrow.of_eq hn).trans (decideFirst_grow _)
  · split
    · exact (NoticesGrow.of_eq hn).trans (reevaluate_grow _)
    · exact .refl _

theorem exitSample_grow (m : Option Nat) (s : State) : NoticesGrow s.ntc (exitSample m s).ntc := by
  have h := (NoticesGrow.of_eq (correctFront_ntc m s)).trans (afterExit_grow m _)
  unfold exitSample
  split
  · exact .refl _
  · exact .refl _
  · exact h
  · exact h

theorem setPyro_ntc (src : Pyro) (v : PyroInput) (s : State) : (setPyro src v s).ntc = s.ntc := by
  cases src <;> rfl

theorem rowSample_ntc (m : Option Nat) (s : State) : (rowSample m s).ntc = s.ntc := by
  unfold rowSample
  split <;> rfl

theorem takeSample_grow (src : Pyro) (value : Nat) (s : State) : NoticesGrow s.ntc (takeSample src value s).ntc := by
  unfold takeSample
  dsimp only
  split
  · exact .of_eq ((rowSample_ntc ..).trans (setPyro_ntc ..))
  · exact (NoticesGrow.of_eq (setPyro_ntc ..)).trans (exitSample_grow ..)

theorem receiveSampleByte_grow (src : Pyro) (s : State) (b : Byte) :
    NoticesGrow s.ntc (receiveSampleByte src s b).ntc := by
  rw [receiveSampleByte_spec]
  split
  · exact .refl _
  · split
    · exact .of_eq (setPyro_ntc ..)
    · split
      · exact takeSample_grow ..
      · exact .of_eq (setPyro_ntc ..)

theorem receiveSample_grow (src : Pyro) (bytes : List Byte) (s : State) :
    NoticesGrow s.ntc (receiveSample src bytes s).ntc := by
  unfold receiveSample
  induction bytes generalizing s with
  | nil => exact .refl _
  | cons b rest ih => exact (receiveSampleByte_grow src s b).trans (ih _)

theorem takeRound_grow (r : RoundRecord) (s : State) : NoticesGrow s.ntc (takeRound r s).ntc := by
  refine NoticesGrow.trans ?_ (reevaluate_grow _)
  have h : NoticesGrow s.ntc ((s.withTrk (updatedTrack s r)).withEst
      { s.est with lastRound := some s.ms, rounds := dropTaken r s.est.rounds }).ntc := .of_eq rfl
  exact ((h.trans (raiseIf_grow ..)).trans (raiseIf_grow ..)).trans (raiseIf_grow ..)

theorem takeCorrection_grow (c : Correction) (s : State) : NoticesGrow s.ntc (takeCorrection c s).ntc := by
  have h : NoticesGrow s.ntc (applyCorrection c s).ntc := .of_eq rfl
  unfold takeCorrection
  dsimp only
  split
  · exact h
  · split
    · exact h.trans (afterExit_grow ..)
    · exact h

theorem settleExpires_ntc (s : State) : (settleExpires s).ntc = s.ntc := by
  unfold settleExpires
  split
  · rfl
  · split <;> rfl

theorem waitExpires_grow (s : State) : NoticesGrow s.ntc (waitExpires s).ntc := by
  unfold waitExpires
  split
  · exact .refl _
  · split
    · have h : NoticesGrow s.ntc (s.withEvu { s.evu with wait := none }).ntc := .of_eq rfl
      exact h.trans (decideFirst_grow _)
    · exact .refl _
    · exact .of_eq rfl
    · exact .of_eq rfl

/-! ### The items that change only by their own rows (R148, R152 to R154, R159) -/

/-- What a row other than power-on reset keeps of the items that have rows of their own. -/
structure OwnKept (i : Instr) (s t : State) : Prop where
  ms : t.ms = s.ms
  secs : t.secs = s.secs
  unit : t.unit = s.unit
  pending : t.pending = s.pending
  permit : i ≠ .permitLost → i ≠ .permitPresent → t.permit = s.permit
  mask : ∀ st, (∀ p, i ≠ .noticeMask st p) → (t.ntc.get st).mask = (s.ntc.get st).mask
  snapshot : ∀ st, (∀ p, i ≠ .noticeRead st p) → (t.ntc.get st).snapshot = (s.ntc.get st).snapshot
  sets : ∀ st, (∀ p, i ≠ .noticeClear st p) →
    (t.ntc.get st).pending &&& (s.ntc.get st).pending = (s.ntc.get st).pending

/-- An operation that leaves the items as they are, but for raised notices. -/
theorem OwnKept.of_grow {i : Instr} {s t : State} (hms : t.ms = s.ms) (hsecs : t.secs = s.secs)
    (hunit : t.unit = s.unit) (hpending : t.pending = s.pending) (hpermit : t.permit = s.permit)
    (h : NoticesGrow s.ntc t.ntc) : OwnKept i s t :=
  ⟨hms, hsecs, hunit, hpending, fun _ _ => hpermit, fun st _ => (h.kept st).1, fun st _ => (h.kept st).2.1,
    fun st _ => (h.kept st).2.2⟩

theorem OwnKept.trans {i : Instr} {s t u : State} (h : OwnKept i s t) (h' : OwnKept i t u) : OwnKept i s u where
  ms := h'.ms.trans h.ms
  secs := h'.secs.trans h.secs
  unit := h'.unit.trans h.unit
  pending := h'.pending.trans h.pending
  permit hl hp := (h'.permit hl hp).trans (h.permit hl hp)
  mask st hn := (h'.mask st hn).trans (h.mask st hn)
  snapshot st hn := (h'.snapshot st hn).trans (h.snapshot st hn)
  sets st hn := by
    have h1 := h.sets st hn
    have h2 := h'.sets st hn
    calc (u.ntc.get st).pending &&& (s.ntc.get st).pending
        = (u.ntc.get st).pending &&& ((t.ntc.get st).pending &&& (s.ntc.get st).pending) := by rw [h1]
      _ = ((u.ntc.get st).pending &&& (t.ntc.get st).pending) &&& (s.ntc.get st).pending := by
        rw [BitVec.and_assoc]
      _ = (s.ntc.get st).pending := by rw [h2, h1]

theorem OwnKept.of_verdict {i : Instr} {s t : State} (h : OnlyVerdict s t) (hn : NoticesGrow s.ntc t.ntc) :
    OwnKept i s t := .of_grow h.ms h.secs h.unit h.pending h.permit hn

theorem OwnKept.of_ilc {i : Instr} {s t : State} (h : OnlyIlc s t) (hn : NoticesGrow s.ntc t.ntc) :
    OwnKept i s t := .of_grow h.ms h.secs h.unit h.pending h.permit hn

theorem OwnKept.of_dispatch {i : Instr} {s t : State} (h : OnlyDispatch s t) : OwnKept i s t :=
  .of_grow h.ms h.secs h.unit h.pending h.permit (.of_eq h.ntc)

/-- A station's notice items replaced. -/
theorem OwnKept.of_notices {i : Instr} {s : State} {st : Station} {n : Notices}
    (hm : (∀ p, i ≠ .noticeMask st p) → n.mask = (s.ntc.get st).mask)
    (hs : (∀ p, i ≠ .noticeRead st p) → n.snapshot = (s.ntc.get st).snapshot)
    (hp : (∀ p, i ≠ .noticeClear st p) → n.pending = (s.ntc.get st).pending) :
    OwnKept i s (setNotices st n s) := by
  have hset : ∀ other, other ≠ st → (setNotices st n s).ntc.get other = s.ntc.get other := fun other ho => by
    simp [setNotices, ho]
  have hsame : (setNotices st n s).ntc.get st = n := by simp [setNotices]
  refine ⟨rfl, rfl, rfl, rfl, fun _ _ => rfl, fun other hi => ?_, fun other hi => ?_, fun other hi => ?_⟩ <;>
    by_cases ho : other = st
  · subst ho
    rw [hsame, hm hi]
  · rw [hset other ho]
  · subst ho
    rw [hsame, hs hi]
  · rw [hset other ho]
  · subst ho
    rw [hsame, hp hi, BitVec.and_self]
  · rw [hset other ho, BitVec.and_self]

theorem handOver_ownKept {i : Instr} {s : State} {count : Lot → Lot} {g : GateBillet}
    (hg : gateFront s = some g) : OwnKept i s (handOver count g.billet s) := by
  obtain ⟨-, -, -, -, ⟨queue, -, -, hr⟩, hs⟩ := handOver_spec count g _ s (gateFront_eq_some hg)
  exact .of_grow (by simpa using congrArg State.ms hs) (by simpa using congrArg State.secs hs)
    (by simpa using congrArg State.unit hs) (by simpa using congrArg State.pending hs)
    (by simpa using congrArg State.permit hs) hr.grow

theorem applyPush_ownKept (i : Instr) (p : PendingPush) (est : EstimateState) (s : State) :
    OwnKept i s (applyPush p est s) := by
  obtain ⟨trk, evu, lot, he⟩ := applyPush_eq p est s
  rw [he]
  exact .of_grow rfl rfl rfl rfl rfl (.refl _)

theorem dispatcherUnblocks_ownKept (i : Instr) (s : State) : OwnKept i s (dispatcherUnblocks s) := by
  rw [dispatcherUnblocks_spec]
  exact .of_grow rfl rfl rfl rfl rfl (.refl _)

theorem dropPush_ownKept (i : Instr) (s : State) : OwnKept i s (dropPush s) := by
  obtain ⟨-, -, hr, hs⟩ := dropPush_spec s
  exact .of_grow (by simpa using congrArg State.ms hs) (by simpa using congrArg State.secs hs)
    (by simpa using congrArg State.unit hs) (by simpa using congrArg State.pending hs)
    (by simpa using congrArg State.permit hs) hr.grow

theorem enterUncertain_ownKept (i : Instr) (s : State) : OwnKept i s (enterUncertain s) := by
  obtain ⟨-, hr, -, hs⟩ := enterUncertain_spec s
  exact .of_grow (by simpa using congrArg State.ms hs) (by simpa using congrArg State.secs hs)
    (by simpa using congrArg State.unit hs) (by simpa using congrArg State.pending hs)
    (by simpa using congrArg State.permit hs) hr.grow

theorem purgeTrack_ownKept (i : Instr) (s : State) : OwnKept i s (purgeTrack s) := by
  have h := purgeTrack_spec s
  exact .of_grow (by simpa using congrArg State.ms h.rest) (by simpa using congrArg State.secs h.rest)
    (by simpa using congrArg State.unit h.rest) (by simpa using congrArg State.pending h.rest)
    (by simpa using congrArg State.permit h.rest) h.raises.grow

theorem Act.ownKept {i : Instr} {s u : State} (ha : Act i s u) : OwnKept i s u := by
  have updates : ∀ {t : State}, t.ms = s.ms → t.secs = s.secs → t.unit = s.unit → t.pending = s.pending →
      t.permit = s.permit → t.ntc = s.ntc → OwnKept i s t :=
    fun h1 h2 h3 h4 h5 h6 => .of_grow h1 h2 h3 h4 h5 (.of_eq h6)
  cases ha with
  | linkErrors _ _ _ _ h => exact .of_grow rfl rfl rfl rfl rfl h.grow
  | loses =>
    obtain ⟨n, he, hr⟩ := loseReservation_raises s
    rw [he]
    exact .of_grow rfl rfl rfl rfl rfl hr.grow
  | noticeRead st => exact .of_notices (fun _ => rfl) (fun h => absurd rfl (h _)) fun _ => rfl
  | noticeClear st kinds => exact .of_notices (fun _ => rfl) (fun _ => rfl) fun h => absurd rfl (h _)
  | noticeMask st kinds => exact .of_notices (fun h => absurd rfl (h _)) (fun _ => rfl) fun _ => rfl
  | deposit st x _ a =>
    obtain ⟨zones, pst, he⟩ := storeField_eq a (fitField s a x.value) s
    rw [he]
    exact updates rfl rfl rfl rfl rfl rfl
  | pushDone st x _ p => exact applyPush_ownKept ..
  | slips => exact enterUncertain_ownKept ..
  | pushCancel => exact dropPush_ownKept ..
  | resyncNotApplied =>
    unfold Machine.resyncNotApplied
    refine OwnKept.trans ?_ (dispatcherUnblocks_ownKept ..)
    exact OwnKept.trans (t := s.withTrk { s.trk with generation := nextGeneration s.trk.generation })
      (.of_grow rfl rfl rfl rfl rfl (.refl _)) (dropPush_ownKept ..)
  | resyncApplied st _ p => exact (applyPush_ownKept ..).trans (dispatcherUnblocks_ownKept ..)
  | purge => exact purgeTrack_ownKept ..
  | take _ _ _ _ _ _ _ hg => exact handOver_ownKept hg
  | discard _ _ _ _ _ hg => exact handOver_ownKept hg
  | newestLoad _ n =>
    unfold setNewestLoad
    split
    · exact updates rfl rfl rfl rfl rfl rfl
    · rename_i l _
      obtain ⟨m, he, hr⟩ := closeLots_raises
        (s.withLot { s.lot with queue := s.lot.queue.dropLast ++ [{ l with toLoad := n }] })
      rw [he]
      exact .of_grow rfl rfl rfl rfl rfl hr.grow
  | permitLost =>
    refine OwnKept.trans ?_ (.of_dispatch (dispatchExpires_onlyDispatch _))
    have hr := (raise_spec .permitOff (haltHeating .stopped (s.withPermit false))).1.grow
    exact ⟨rfl, rfl, rfl, rfl, fun h => absurd rfl h, fun st _ => (hr.kept st).1, fun st _ => (hr.kept st).2.1,
      fun st _ => (hr.kept st).2.2⟩
  | permitPresent =>
    have hr := NoticesGrow.refl s.ntc
    exact ⟨rfl, rfl, rfl, rfl, fun _ h => absurd rfl h, fun st _ => (hr.kept st).1, fun st _ => (hr.kept st).2.1,
      fun st _ => (hr.kept st).2.2⟩
  | dispatchExpiry => exact .of_dispatch (dispatchExpires_onlyDispatch s)
  | inverterReply _ r => exact .of_ilc (takeReply_onlyIlc r s) (takeReply_grow r s)
  | windowCloses => exact .of_ilc (closeWindow_onlyIlc s) (closeWindow_grow s)
  | round _ r => exact .of_verdict (takeRound_onlyFront r s).toOnlyVerdict (takeRound_grow r s)
  | correction _ c => exact .of_verdict (takeCorrection_onlyFront c s).toOnlyVerdict (takeCorrection_grow c s)
  | samples _ src bytes =>
    exact .of_verdict (receiveSample_onlyVerdict src bytes s) (receiveSample_grow src bytes s)
  | hunts _ src => exact .of_verdict (setPyro_onlyVerdict src _ s) (.of_eq (setPyro_ntc ..))
  | settles => exact .of_verdict (settleExpires_onlyFront s).toOnlyVerdict (.of_eq (settleExpires_ntc s))
  | waits => exact .of_verdict (waitExpires_onlyFront s).toOnlyVerdict (waitExpires_grow s)
  | _ => exact updates rfl rfl rfl rfl rfl rfl

theorem SameButLinks.ownKept {i : Instr} {s t : State} (h : SameButLinks s t) : OwnKept i s t := by
  rw [← h.symm]
  exact .of_grow rfl rfl rfl rfl rfl (.refl _)

theorem settled_ownKept (i : Instr) (s : State) : OwnKept i s (settled i s) := by
  obtain h | h := (settled_spec i s).1
  · exact h.ownKept
  · exact (Act.ownKept (.loses i s)).trans h.ownKept

/-- Settles O5: each act keeps the items that have rows of their own, and the links hold none of them. -/
theorem ownItemsOnly : Obligations.OwnItemsOnly := fun i s t h hi => by
  obtain ⟨u, ha, hu⟩ := exec_act h hi
  have hown := ((settled_ownKept i s).trans ha.ownKept).trans hu.ownKept
  exact ⟨hown.ms, hown.secs, hown.unit, hown.pending, hown.permit,
    fun st => ⟨hown.mask st, hown.snapshot st, hown.sets st⟩⟩

end Sys2Proof.Machine
end

section
/-! PROOFS. What every row keeps of the track: the records in it (R3, R45) and its generation (R10). -/

namespace Sys2Proof.Machine

theorem settled_trk (i : Instr) (s : State) : (settled i s).trk = s.trk := by
  have hlinks : ∀ {t u : State}, SameButLinks t u → u.trk = t.trk := fun h => by
    rw [← h.symm]
    rfl
  obtain h | h := (settled_spec i s).1
  · exact hlinks h
  · obtain ⟨n, he⟩ := loseReservation_eq s
    rw [hlinks h, he]
    rfl

theorem SameButLinks.trk {s t : State} (h : SameButLinks s t) : t.trk = s.trk := by
  rw [← h.symm]
  rfl

/-! ### The records in the track -/

/-- With distinct tags a record is the one that has its tag. -/
theorem eq_of_tag {s : State} (hs : TagsDistinct s) {b c : Billet} (hb : b ∈ billets s) (hc : c ∈ billets s)
    (h : c.tag = b.tag) : c = b := by
  have hn : ((billets s).map (·.tag)).Nodup := (List.nodup_append.1 hs.1).1
  exact List.inj_on_of_nodup_map hn hc hb h

/-- No record has the tag of the pending push. -/
theorem tag_ne_push {s : State} (hs : TagsDistinct s) {b : Billet} {p : PendingPush} (hb : b ∈ billets s)
    (hp : s.trk.push = some p) : b.tag ≠ p.tag :=
  (List.nodup_append.1 hs.1).2.2 _ (List.mem_map_of_mem hb) _ (by simp [hp])

/-- Settles O32: a record of the track after a row was in it before and is kept, or is new. -/
theorem recordsKeepDoubtAndMarks : Obligations.RecordsKeepDoubtAndMarks := fun i s t h hi hs b hb c hc htag => by
  obtain ⟨u, ha, hu⟩ := exec_act h hi
  have hsettled : billets (settled i s) = billets s := by rw [billets, billets, settled_trk]
  have hcu : c ∈ billets u := by rwa [billets, hu.trk] at hc
  obtain ⟨b', hb', hk⟩ | ⟨p, est, hp, rfl⟩ := ha.track.mem_billets hcu
  · rw [hsettled] at hb'
    obtain rfl := eq_of_tag hs hb hb' (hk.tag.symm.trans htag)
    exact ⟨hk.recipe, hk.lot, hk.length, hk.entryTemp, hk.entryTime, fun he => (hk.energy he).1, hk.untracked,
      hk.overheated, hk.overdwell⟩
  · rw [settled_trk] at hp
    exact absurd htag.symm (tag_ne_push hs hb hp)

/-! ### The generation (R10) -/

/-- A command with its items, from a station that may send it, leaves the blocks as its owner does. -/
theorem command_sameButLinks {α : Type} {st : Station} {code : Nat} (c : Instr) (a : α)
    (owner : α → State → State × Answer) (s : State) (hp : permitted code st = true) :
    SameButLinks (owner a (settleReset st s)).1 (command st code c (.items a) owner s) := by
  unfold command serve
  rw [if_pos hp]
  exact .reply ..

theorem NoResetDue.of_ne {st : Station} {s : State} (h : st ≠ .press) : NoResetDue st s := fun he => absurd he h

theorem settleReset_trk (st : Station) (s : State) : (settleReset st s).trk = s.trk := by
  unfold settleReset
  split
  · obtain ⟨n, he⟩ := loseReservation_eq s
    rw [(tellReset_spec s).1.trk, he]
    rfl
  · rfl

theorem dispatcherUnblocks_trk (s : State) : (dispatcherUnblocks s).trk = s.trk := by
  rw [dispatcherUnblocks_spec]
  rfl

theorem resyncNotApplied_trk (s : State) :
    (resyncNotApplied s).trk =
      { s.trk with
        push := none, state := .idle, timer := none, generation := nextGeneration s.trk.generation } := by
  unfold resyncNotApplied
  dsimp only
  rw [dispatcherUnblocks_trk, (dropPush_spec _).1]
  rfl

theorem applyPush_generation (p : PendingPush) (est : EstimateState) (s : State) :
    (applyPush p est s).trk.generation = nextGeneration s.trk.generation := by
  obtain ⟨ht, -, -⟩ := (applyPush_spec p est s).1
  rw [ht]
  rfl

theorem trkResync_generation {d : Nat} (hd : d ≤ 1) {s : State} (hs : s.trk.state = .uncertain) :
    (trkResync d s).1.trk.generation = nextGeneration s.trk.generation := by
  unfold trkResync
  rw [hs]
  obtain rfl | rfl : d = 0 ∨ d = 1 := by omega
  · exact congrArg Track.generation (resyncNotApplied_trk s)
  · show (resyncApplied s).trk.generation = _
    unfold resyncApplied
    split
    · rw [dispatcherUnblocks_trk, applyPush_generation]
    · exact congrArg Track.generation (resyncNotApplied_trk s)

theorem handOver_generation {s : State} {g : GateBillet} {rest : List GateBillet} (count : Lot → Lot)
    (hg : s.trk.gate = g :: rest) :
    (handOver count g.billet s).trk.generation = nextGeneration s.trk.generation := by
  obtain ⟨ht, -⟩ := handOver_spec count g rest s hg
  rw [ht]
  rfl

theorem gateFront_of_headTag {s : State} {tag : Nat} (h : s.trk.gate.head?.map (·.billet.tag) = some tag) :
    ∃ g rest, s.trk.gate = g :: rest ∧ g.billet.tag = tag := by
  cases hg : s.trk.gate with
  | nil => simp [hg] at h
  | cons g rest => exact ⟨g, rest, rfl, by simpa [hg] using h⟩

/-- The structural changes count the generation up by one. -/
theorem generation_of_changes {i : Instr} {s t : State} (h : exec i s = .next t) (hc : ChangesStructure i s) :
    t.trk.generation = nextGeneration s.trk.generation := by
  obtain ⟨p, x, rfl, hs, hp, htag, hw⟩ | ⟨d, rfl, hs, hd⟩ | ⟨tag, rfl, hr, h0, hphu, hg⟩ | ⟨tag, rfl, hg⟩ | rfl :=
    hc <;> cases h
  · rw [(command_sameButLinks (.pushDone .loader (.items x)) x trkPushDone s (by decide)).trk,
      settleReset_eq (.of_ne (by decide))]
    unfold trkPushDone
    rw [hs, hp]
    dsimp only
    rw [if_neg (by simpa using htag), if_pos (by simpa [withinTolerance] using hw)]
    exact applyPush_generation ..
  · rw [(command_sameButLinks (.resync .supervisor (.items d)) d trkResync s (by decide)).trk,
      settleReset_eq (.of_ne (by decide))]
    exact trkResync_generation hd hs
  · rw [(command_sameButLinks (.take .press (.items tag)) tag phuTake s (by decide)).trk, settleReset_eq hr]
    obtain ⟨g, rest, hgate, ht⟩ := gateFront_of_headTag hg
    have htake : takeable s tag = some g := by
      unfold takeable
      have hany : s.phu.any (fun r => r.tag == tag) = true := by
        cases hp : s.phu with
        | none => simp [hp] at hphu
        | some r => simpa [hp] using hphu
      rw [if_pos ⟨h0, hany⟩, gateFront_cons hgate]
      simp [ht]
    unfold phuTake
    rw [htake]
    exact handOver_generation _ hgate
  · rw [(command_sameButLinks (.discard .press (.items tag)) tag phuDiscard s (by decide)).trk,
      ← settleReset_trk .press s]
    rw [← settleReset_trk .press s] at hg
    obtain ⟨g, rest, hgate, ht⟩ := gateFront_of_headTag hg
    unfold phuDiscard
    rw [gateFront_cons hgate]
    dsimp only
    rw [if_neg (by simpa using ht)]
    exact handOver_generation _ hgate
  · rw [(command_sameButLinks (.purge .supervisor (.items ())) () (fun _ => trkPurge) s (by decide)).trk,
      settleReset_eq (.of_ne (by decide))]
    exact congrArg Track.generation (purgeTrack_spec s).trk

/-- An act that no structural change of R10 stands behind keeps the generation. -/
theorem Act.generation {i : Instr} {s u : State} (ha : Act i s u)
    (hd : ∀ st x p, i = .pushDone st (.items x) → st = .loader → s.trk.state = .pushing → s.trk.push = some p →
      x.tag = p.tag → ¬withinTolerance x.stroke p.length = true)
    (hr : ∀ d, i = .resync .supervisor (.items d) → d ≤ 1 → s.trk.state ≠ .uncertain)
    (ht : ∀ tag g, i = .take .press (.items tag) → tag ≠ 0 → s.phu.map (·.tag) = some tag →
      gateFront s = some g → g.billet.tag ≠ tag)
    (hx : ∀ tag g, i = .discard .press (.items tag) → gateFront s = some g → g.billet.tag ≠ tag)
    (hp : i ≠ .purge .supervisor (.items ())) : u.trk.generation = s.trk.generation := by
  cases ha with
  | loses =>
    obtain ⟨n, he⟩ := loseReservation_eq s
    rw [he]
    rfl
  | deposit st x _ a =>
    obtain ⟨zones, pst, he⟩ := storeField_eq a (fitField s a x.value) s
    rw [he]
    rfl
  | pushDone st x _ p hst hs hpush htag hw => exact absurd hw (hd st x p rfl hst hs hpush htag)
  | slips =>
    obtain ⟨htrk, -⟩ := enterUncertain_spec s
    rw [htrk]
  | pushCancel => rw [(dropPush_spec s).1]
  | resyncNotApplied st d _ hst hle hs => exact absurd hs (hr d (hst ▸ rfl) hle)
  | resyncApplied st _ p hst hs => exact absurd hs (hr 1 (hst ▸ rfl) le_rfl)
  | purge st _ hst => exact absurd (hst ▸ rfl) hp
  | take st tag _ g hst h0 hphu hg htag => exact absurd htag (ht tag g (hst ▸ rfl) h0 hphu hg)
  | discard st tag _ g hst hg htag => exact absurd htag (hx tag g (hst ▸ rfl) hg)
  | newestLoad _ n =>
    obtain ⟨lots, ntc, he⟩ := setNewestLoad_eq n s
    rw [he]
    rfl
  | permitLost => exact (dispatchExpires_inPlace _).generation
  | dispatchExpiry => exact (dispatchExpires_inPlace s).generation
  | inverterReply _ r => exact congrArg Track.generation (takeReply_onlyIlc r s).trk
  | windowCloses => exact congrArg Track.generation (closeWindow_onlyIlc s).trk
  | round _ r => exact (takeRound_inPlace r s).generation
  | correction _ c => exact (takeCorrection_inPlace c s).generation
  | samples _ src bytes => exact (receiveSample_inPlace src bytes s).generation
  | hunts _ src => exact congrArg Track.generation (setPyro_trk ..)
  | settles => exact congrArg Track.generation (settleExpires_trk s)
  | waits => exact (waitExpires_inPlace s).generation
  | _ => rfl

/-- A command of the press station that is taken while a reset is due finds no reservation. -/
theorem settled_phu {i : Instr} {s : State} (hi : i.station = some .press) :
    NoResetDue .press s ∧ (settled i s).phu = s.phu ∨ (settled i s).phu = none := by
  have hset : settled i s = settleReset .press s := by simp [settled, hi]
  rw [hset]
  by_cases hdue : resetDue s = true
  · refine .inr ?_
    have ht : settleReset .press s = tellReset s := by simp [settleReset, hdue]
    obtain ⟨hphu, -⟩ := loseReservation_spec s
    rw [ht, ← (tellReset_spec s).1.symm]
    exact hphu
  · have hno : NoResetDue .press s := fun _ => by simpa using hdue
    exact .inl ⟨hno, by rw [settleReset_eq hno]⟩

theorem headTag_of_gateFront {s : State} {g : GateBillet} (h : gateFront s = some g) :
    s.trk.gate.head?.map (·.billet.tag) = some g.billet.tag := by
  rw [gateFront] at h
  simp [h]

/-- Settles O31: the structural changes count the generation up, and every other act keeps it. -/
theorem generationCountsStructure : Obligations.GenerationCountsStructure := fun i s t h hi => by
  refine ⟨generation_of_changes h, fun hno => ?_⟩
  obtain ⟨u, ha, hu⟩ := exec_act h hi
  have htrk := settled_trk i s
  have hfront : gateFront (settled i s) = gateFront s := by rw [gateFront, gateFront, htrk]
  unfold ChangesStructure at hno
  push Not at hno
  obtain ⟨hd, hr, ht, hx, hp⟩ := hno
  rw [hu.trk, ← htrk]
  refine ha.generation ?_ ?_ ?_ ?_ hp <;> simp only [hfront, htrk]
  · rintro st x p rfl rfl hs hpush htag hw
    obtain ⟨h1, h2⟩ : x.stroke ≤ p.length + 8 ∧ p.length ≤ x.stroke + 8 := by
      simpa [withinTolerance] using hw
    exact absurd h2 (not_le.2 (hd p x rfl hs hpush htag h1))
  · exact fun d he hle hs => absurd hle (not_le.2 (hr d he hs))
  · rintro tag g rfl h0 hphu hg rfl
    obtain ⟨hdue, hsame⟩ | hnone := settled_phu (i := .take .press (.items g.billet.tag)) (s := s) rfl
    · rw [hsame] at hphu
      exact ht _ rfl hdue h0 hphu (headTag_of_gateFront hg)
    · rw [hnone] at hphu
      cases hphu
  · rintro tag g rfl hg rfl
    exact hx _ rfl (headTag_of_gateFront hg)

end Sys2Proof.Machine
end

section
/-! PROOFS. The station links: link resets, replies, and the reception of frames (R144 to R152). -/

namespace Sys2Proof.Machine

/-! ### Link units (R149, R150) -/

theorem takeNext_of_empty {l : Link} (h : l.fifo = []) : l.takeNext = l := by
  unfold Link.takeNext
  rw [h]
  split
  · rename_i heq
    cases heq
  · rfl

/-- A unit that executes a command or does not have its transmitter IDLE takes no frame. -/
theorem takeNext_of_busy {l : Link} (h : l.executing ≠ none ∨ l.transmitter ≠ .idle) : l.takeNext = l := by
  obtain he | ⟨_, _, hx, ht, -⟩ := takeNext_cases l
  · exact he
  · exact absurd h (by simp [hx, ht])

theorem takeNext_of_free {l : Link} {f : Frame} {rest : List Frame} (he : l.executing = none)
    (ht : l.transmitter = .idle) (hf : l.fifo = f :: rest) (ho : l.resetOwed = false) :
    l.takeNext =
      { l with fifo := rest, executing := some { frame := f, dropReply := false }, pace := true } := by
  unfold Link.takeNext
  rw [he, ht, hf]
  dsimp only
  rw [ho]
  rfl

theorem takeNext_receiver (l : Link) : l.takeNext.receiver = l.receiver := by
  obtain h | ⟨_, _, _, _, _, _, h⟩ := takeNext_cases l <;> rw [h]

theorem takeNext_transmitter (l : Link) : l.takeNext.transmitter = l.transmitter := by
  obtain h | ⟨_, _, _, _, _, _, h⟩ := takeNext_cases l <;> rw [h]

theorem setLink_setLink (st : Station) (l m : Link) (s : State) :
    setLink st m (setLink st l s) = setLink st m s := by
  simp [setLink]

theorem setLink_get (st : Station) (l : Link) (s : State) : (setLink st l s).links.get st = l := by simp

theorem setLink_self (st : Station) (s : State) : setLink st (s.links.get st) s = s := by simp [setLink]

theorem takeFrame_setLink (st : Station) (l : Link) (s : State) :
    takeFrame st (setLink st l s) = setLink st l.takeNext s := by
  simp [takeFrame, setLink]

/-! ### Link resets (R120, R152) -/

/-- PHU is told of a link reset: no reservation stands, with RES_LOST for one that stood, and the press unit
owes no telling and may take a frame. -/
theorem tellReset_eq (s : State) :
    ∃ n, tellReset s =
        ((s.withPhu none).withNtc n).withLinks
          (s.links.set .press { s.links.press with resetOwed := false }.takeNext) ∧
      Raises (kindIf (s.phu.isSome = true) .resLost) s.ntc n := by
  obtain ⟨n, hn, hr⟩ := loseReservation_raises (setLink .press { s.links.press with resetOwed := false } s)
  refine ⟨n, ?_, hr⟩
  have hl := tellReset_links s
  unfold tellReset at hl ⊢
  rw [hn] at hl ⊢
  rw [← hl]
  rfl

theorem linkReset_of_ne {st : Station} {s : State} (hst : st ≠ .press) (hb : (s.links.get st).lineBreak = false)
    (hd : st = .supervisor → driverEnable s = false) :
    linkReset st s = setLink st (s.links.get st).afterBreak s := by
  unfold linkReset
  rw [if_neg (by simpa [hb] using hd)]
  exact if_neg (by simpa using hst)

theorem linkReset_press {s : State} (hb : s.links.press.lineBreak = false) :
    linkReset .press s =
      if s.links.press.executing = none then
        tellReset (setLink .press { s.links.press.afterBreak with resetOwed := true } s)
      else setLink .press { s.links.press.afterBreak with resetOwed := true } s := by
  unfold linkReset
  have hlinks : (setLink .press (s.links.get .press).afterBreak s).links.press = s.links.press.afterBreak := rfl
  rw [if_neg (by simp [PerStation.get, hb])]
  simp only [hlinks, setLink_setLink, beq_self_eq_true, if_true]
  have hdue : resetDue (setLink .press { s.links.press.afterBreak with resetOwed := true } s) =
      s.links.press.executing.isNone := by
    cases he : s.links.press.executing <;> simp [resetDue, setLink, PerStation.set, Link.afterBreak, he]
  rw [hdue]
  cases s.links.press.executing <;> rfl

/-- A unit after a break, which owes a telling or does not. -/
def brokenLink (l : Link) (owed : Bool) : Link := { l.afterBreak with resetOwed := owed }

theorem breakReceived {st : Station} {s : State} (hb : (s.links.get st).lineBreak = false)
    (hd : st = .supervisor → driverEnable s = false) :
    ∃ owed phu n, linkReset st s =
        ((setLink st (brokenLink (s.links.get st) owed) s).withPhu phu).withNtc n ∧
      if st = .press ∧ s.links.press.executing = none then
        owed = false ∧ phu = none ∧ Raises (kindIf (s.phu.isSome = true) .resLost) s.ntc n
      else phu = s.phu ∧ n = s.ntc ∧ (st = .press → owed = true) := by
  by_cases hst : st = .press
  · subst hst
    by_cases he : s.links.press.executing = none
    · obtain ⟨n, hn, hr⟩ := tellReset_eq (setLink .press { s.links.press.afterBreak with resetOwed := true } s)
      refine ⟨false, none, n, ?_, ?_⟩
      · rw [linkReset_press hb, if_pos he, hn]
        have hempty : (brokenLink s.links.press false).takeNext = brokenLink s.links.press false :=
          takeNext_of_empty rfl
        unfold brokenLink at hempty
        simp only [setLink, PerStation.get, PerStation.set, State.withLinks_links, hempty]
        rfl
      · rw [if_pos ⟨rfl, he⟩]
        exact ⟨rfl, rfl, hr⟩
    · refine ⟨true, s.phu, s.ntc, ?_, ?_⟩
      · rw [linkReset_press hb, if_neg he]
        rfl
      · rw [if_neg (by simp [he])]
        exact ⟨rfl, rfl, fun _ => rfl⟩
  · refine ⟨(s.links.get st).afterBreak.resetOwed, s.phu, s.ntc, ?_, ?_⟩
    · rw [linkReset_of_ne hst hb hd]
      rfl
    · rw [if_neg (by simp [hst])]
      exact ⟨rfl, rfl, fun h => absurd h hst⟩

theorem linkReset_of_space {st : Station} {s : State}
    (h : (s.links.get st).lineBreak = true ∨ (st = .supervisor ∧ driverEnable s = true)) : linkReset st s = s := by
  unfold linkReset
  exact if_pos (by simpa using h)

/-- Settles O6: the state after a break, block by block, and PHU's telling. -/
theorem linkResets : Obligations.LinkResets := by
  refine ⟨fun st s hb hd => ?_, fun st s => ⟨fun h => ?_, ?_⟩, fun s => ⟨fun he => ?_, fun he => ?_⟩⟩
  · obtain ⟨owed, phu, n, ht, hcase⟩ := breakReceived hb hd
    refine ⟨linkReset st s, rfl, ?_⟩
    rw [ht]
    have hget : ((((setLink st (brokenLink (s.links.get st) owed) s).withPhu phu).withNtc n).links.get st) =
        brokenLink (s.links.get st) owed := setLink_get ..
    simp only [hget]
    refine ⟨rfl, rfl, rfl, rfl, rfl, rfl, rfl, rfl, fun other ho => by simp [ho], ?_, ?_⟩
    · simp only [setLink, State.withLinks, State.withPhu, State.withNtc]
    split
    · rename_i h
      rw [if_pos h] at hcase
      obtain ⟨rfl, rfl, hr⟩ := hcase
      obtain ⟨rfl, -⟩ := h
      exact ⟨rfl, rfl, hr⟩
    · rename_i h
      rw [if_neg h] at hcase
      obtain ⟨rfl, rfl, howed⟩ := hcase
      refine ⟨rfl, rfl, fun hst => ?_⟩
      subst hst
      exact howed rfl
  · exact congrArg Host.Outcome.next (linkReset_of_space h)
  · exact ⟨_, rfl, setLink_onlyLink .., by simp⟩
  · obtain ⟨n, ht, hr⟩ := tellReset_eq s
    have hp : pressReset s = tellReset s := by
      unfold pressReset
      rw [he]
    refine ⟨pressReset s, rfl, ?_⟩
    rw [hp, ht]
    refine ⟨rfl, ?_, hr, ?_⟩
    · show ({ s.links.press with resetOwed := false } : Link).takeNext.resetOwed = false
      obtain h | ⟨_, _, _, _, _, _, h⟩ := takeNext_cases { s.links.press with resetOwed := false } <;> rw [h]
    · exact setLink_onlyLink .press { s.links.press with resetOwed := false }.takeNext s
  · obtain ⟨e, he⟩ := Option.ne_none_iff_exists'.1 he
    have hp : pressReset s = setLink .press { s.links.press with resetOwed := true } s := by
      unfold pressReset
      rw [he]
    refine ⟨pressReset s, rfl, ?_⟩
    rw [hp]
    exact ⟨setLink_onlyLink .., by simp [setLink, PerStation.set]⟩

/-! ### Replies (R144, R150) -/

/-- Settles O10: the equations of the start and the end of a reply. -/
theorem replyBeginsAndEnds : Obligations.ReplyBeginsAndEnds := by
  refine ⟨fun s f ht hr => ?_, fun st s f ht => ?_⟩
  · have hs : startReply s = setLink .supervisor { s.links.supervisor with transmitter := .sending f } s := by
      unfold startReply
      dsimp only
      rw [ht]
      exact if_neg (by simp [Link.isReceiving, hr])
    refine ⟨startReply s, rfl, ?_⟩
    rw [hs]
    refine ⟨setLink_onlyLink .., by simp [setLink, PerStation.set], ?_⟩
    exact (driverEnable_eq_true_iff _).2 ⟨f, by simp [setLink, PerStation.set]⟩
  · have hs : finishReply st s = setLink st { s.links.get st with transmitter := .idle }.takeNext s := by
      unfold finishReply
      dsimp only
      rw [ht]
      exact takeFrame_setLink ..
    refine ⟨finishReply st s, rfl, ?_⟩
    rw [hs, setLink_get]
    refine ⟨setLink_onlyLink .., takeNext_transmitter _, fun g rest hf he ho => ?_⟩
    rw [takeNext_of_free (l := { s.links.get st with transmitter := .idle }) he rfl hf ho]
    exact ⟨rfl, rfl, rfl⟩

/-! ### Receiving bytes (R147) -/

theorem canReceive_setLink {st : Station} {l : Link} {s : State} (hb : l.lineBreak = (s.links.get st).lineBreak)
    (ht : l.transmitter = (s.links.get st).transmitter) : canReceive (setLink st l s) st = canReceive s st := by
  rw [Bool.eq_iff_iff, canReceive_iff, canReceive_iff, setLink_get, hb, ht]

theorem receiveByte_of_deaf {st : Station} {s : State} (h : canReceive s st = false) (b : Byte) :
    receiveByte st s b = s := by
  unfold receiveByte
  exact if_neg (by simp [h])

theorem receiveByte_hunting {st : Station} {s : State} (hc : canReceive s st = true)
    (hr : (s.links.get st).receiver = .hunting) (b : Byte) :
    receiveByte st s b =
      if b = 0xA5 then
        setLink st
          { s.links.get st with
            receiver := .receiving [b], overrun := decide (4 ≤ (s.links.get st).fifo.length) } s
      else s := by
  unfold receiveByte
  dsimp only
  rw [if_pos hc, hr]

theorem receiveByte_receiving {st : Station} {s : State} {sofar : List Byte} (hc : canReceive s st = true)
    (hr : (s.links.get st).receiver = .receiving sofar) (b : Byte) :
    receiveByte st s b =
      if (sofar ++ [b]).length < 3 then setLink st { s.links.get st with receiver := .receiving (sofar ++ [b]) } s
      else if (byteAt (sofar ++ [b]) 2).toNat < 2 ∨ 66 < (byteAt (sofar ++ [b]) 2).toNat then discardFaulty st s
      else if (sofar ++ [b]).length = (byteAt (sofar ++ [b]) 2).toNat + 4 then completeFrame st (sofar ++ [b]) s
      else setLink st { s.links.get st with receiver := .receiving (sofar ++ [b]) } s := by
  unfold receiveByte
  dsimp only
  rw [if_pos hc, hr]

theorem byteAt_append {bytes more : List Byte} {i : Nat} (h : i < bytes.length) :
    byteAt (bytes ++ more) i = byteAt bytes i := by
  simp [byteAt, List.getD_eq_getElem?_getD, List.getElem?_append_left h]

/-- The bytes before some of a partial frame's are a partial frame. -/
theorem partialFrame_of_append {bytes more : List Byte} (hne : bytes ≠ []) (h : partialFrame (bytes ++ more)) :
    partialFrame bytes := by
  obtain ⟨hhead, hlen⟩ := h
  rw [List.head?_append_of_ne_nil _ hne] at hhead
  refine ⟨hhead, fun h3 => ?_⟩
  obtain ⟨h1, h2, h4⟩ := hlen (by rw [List.length_append]; omega)
  rw [byteAt_append (by omega)] at h1 h2 h4
  rw [List.length_append] at h4
  exact ⟨h1, h2, by omega⟩

/-- Bytes that continue a frame in reception without ending it are appended. -/
theorem receiveBytes_receiving {st : Station} {s : State} {begun more : List Byte} (hc : canReceive s st = true)
    (hr : (s.links.get st).receiver = .receiving begun) (hne : begun ≠ []) (hp : partialFrame (begun ++ more)) :
    more.foldl (receiveByte st) s = setLink st { s.links.get st with receiver := .receiving (begun ++ more) } s := by
  induction more generalizing s begun with
  | nil =>
    rw [List.append_nil, ← hr]
    exact (setLink_self st s).symm
  | cons b rest ih =>
    have hsplit : begun ++ b :: rest = (begun ++ [b]) ++ rest := by simp
    rw [hsplit] at hp ⊢
    have hne' : begun ++ [b] ≠ [] := by simp
    have hb := partialFrame_of_append hne' hp
    have hstep : receiveByte st s b = setLink st { s.links.get st with receiver := .receiving (begun ++ [b]) } s := by
      rw [receiveByte_receiving hc hr]
      split
      · rfl
      · rename_i h3
        obtain ⟨h2, h66, hlt⟩ := hb.2 (by omega)
        rw [if_neg (by omega), if_neg (by omega)]
    rw [List.foldl_cons, hstep]
    refine (ih (s := setLink st _ s) ?_ ?_ hne' hp).trans ?_
    · exact (canReceive_setLink (by rfl) (by rfl)).trans hc
    · rw [setLink_get]
    · simp only [setLink_get, setLink_setLink]

/-- What a unit holds of a frame: nothing while it hunts, or the bytes in reception. -/
def HoldsBytes (l : Link) (begun : List Byte) : Prop :=
  begun = [] ∧ l.receiver = .hunting ∨ begun ≠ [] ∧ l.receiver = .receiving begun

/-- A unit with some bytes in reception. -/
def receivingLink (l : Link) (begun bytes : List Byte) : Link :=
  { l with
    receiver := .receiving bytes
    overrun := if begun = [] then decide (4 ≤ l.fifo.length) else l.overrun }

/-- The bytes of a frame but for its last reach a unit that holds those before them. -/
theorem receiveBytes_partial {st : Station} {s : State} {begun more : List Byte} (hc : canReceive s st = true)
    (hr : HoldsBytes (s.links.get st) begun) (hp : partialFrame (begun ++ more)) :
    more.foldl (receiveByte st) s = setLink st (receivingLink (s.links.get st) begun (begun ++ more)) s := by
  unfold receivingLink
  obtain ⟨rfl, hr⟩ | ⟨hne, hr⟩ := hr
  · cases more with
    | nil => exact absurd hp.1 (by simp)
    | cons b rest =>
      obtain rfl : b = 0xA5 := by simpa using hp.1
      rw [List.foldl_cons, receiveByte_hunting hc hr, if_pos rfl]
      refine (receiveBytes_receiving (s := setLink st _ s) (begun := [0xA5]) ?_ ?_ (by simp) hp).trans ?_
      · exact (canReceive_setLink (by rfl) (by rfl)).trans hc
      · rw [setLink_get]
      · simp only [setLink_get, setLink_setLink, if_true, List.nil_append, List.singleton_append]
  · rw [receiveBytes_receiving hc hr hne hp]
    simp only [hne, if_false]

theorem discardFaulty_spec (st : Station) (s : State) :
    LinkErrorOnly st s.ntc (discardFaulty st s).ntc ∧
      OnlyLink st s ((discardFaulty st s).withNtc s.ntc) ∧
      (discardFaulty st s).links.get st = (s.links.get st).hunt :=
  ⟨(raiseLinkError_spec st (setLink st (s.links.get st).hunt s)).1, setLink_onlyLink .., setLink_get ..⟩

/-- Settles O9: the receiver's equations for each byte and fault. -/
theorem receptionBeginsAndEnds : Obligations.ReceptionBeginsAndEnds := fun st s => by
  refine ⟨rfl, fun hc => ⟨?_, fun bytes => ?_⟩, fun hc hr => ⟨⟨_, rfl, ?_⟩, fun b hb => ?_⟩,
    fun begun more hc hr hne hp => ⟨_, rfl, ?_⟩, fun i hi => ?_⟩
  · exact congrArg Host.Outcome.next (receiveByte_of_deaf hc 0xA5)
  · refine congrArg Host.Outcome.next ?_
    induction bytes with
    | nil => rfl
    | cons b rest ih => rw [List.foldl_cons, receiveByte_of_deaf hc, ih]
  · rw [receiveByte_hunting hc hr, if_pos rfl]
    exact ⟨setLink_onlyLink .., setLink_get ..⟩
  · refine congrArg Host.Outcome.next ?_
    rw [List.foldl_cons, receiveByte_hunting hc hr, if_neg hb]
    rfl
  · rw [receiveBytes_receiving hc hr hne hp]
    exact ⟨setLink_onlyLink .., setLink_get ..⟩
  · have he : exec i s = .next (receptionFault st s) := by obtain rfl | rfl := hi <;> rfl
    rw [he]
    unfold receptionFault
    refine ⟨fun hr => by simp [Link.isReceiving, hr], fun bytes hr => ?_⟩
    rw [if_pos (isReceiving_of_receiving hr)]
    exact ⟨_, rfl, discardFaulty_spec st s⟩

end Sys2Proof.Machine
end

section
/-! PROOFS. Complete frames: accepted, or discarded with or without notice (R145 to R149). -/

namespace Sys2Proof.Machine

/-! ### The check byte -/

theorem byteSum_concat (bytes : List Byte) (b : Byte) : byteSum (bytes ++ [b]) = byteSum bytes + b := by
  simp [byteSum]

/-- Bytes with a check byte sum to 0 exactly when the check byte is the correct one. -/
theorem byteSum_check (bytes : List Byte) (chk : Byte) :
    byteSum (bytes ++ [chk]) = 0 ↔ chk = checkByte bytes := by
  rw [byteSum_concat, checkByte]
  generalize byteSum bytes = x
  bv_omega

/-! ### The bytes of a frame -/

/-- A frame as it arrives: START, UNIT, LEN, SEQ, CMD, payload, and a check byte, correct or not (R145). -/
def frameBytes (unit seq cmd : Byte) (payload : List Byte) (chk : Byte) : List Byte :=
  0xA5 :: unit :: BitVec.ofNat 8 (payload.length + 2) :: seq :: cmd :: (payload ++ [chk])

theorem frameOf_frameBytes (unit seq cmd chk : Byte) (payload : List Byte) :
    frameOf (frameBytes unit seq cmd payload chk) =
      { unit := unit, seq := seq, cmd := cmd, payload := payload } := by
  simp [frameOf, frameBytes, byteAt]

/-- The bytes of a frame before its last are a partial frame. -/
theorem partialFrame_of_frame {unit seq cmd chk last : Byte} {payload sofar : List Byte}
    (hp : payload.length ≤ 64) (hne : sofar ≠ []) (h : sofar ++ [last] = frameBytes unit seq cmd payload chk) :
    partialFrame sofar := by
  have hlen := congrArg List.length h
  rw [List.length_append, List.length_singleton] at hlen
  have hfull : (frameBytes unit seq cmd payload chk).length = payload.length + 6 := by simp [frameBytes]
  have hhead := congrArg List.head? h
  rw [List.head?_append_of_ne_nil _ hne] at hhead
  refine ⟨hhead, fun h3 => ?_⟩
  have h2 : byteAt sofar 2 = BitVec.ofNat 8 (payload.length + 2) := by
    rw [← byteAt_append (more := [last]) (by omega), h]
    rfl
  have hnat : (BitVec.ofNat 8 (payload.length + 2)).toNat = payload.length + 2 := by
    rw [BitVec.toNat_ofNat]
    omega
  rw [h2, hnat]
  omega

/-- The last of some bytes. -/
theorem exists_concat {bytes : List Byte} (h : bytes ≠ []) : ∃ sofar last, bytes = sofar ++ [last] :=
  ⟨bytes.dropLast, bytes.getLast h, (List.dropLast_concat_getLast h).symm⟩

/-- The last byte of a frame reaches a unit that holds those before. -/
theorem receiveBytes_last {st : Station} {s : State} {begun rest bytes : List Byte} (hc : canReceive s st = true)
    (hr : HoldsBytes (s.links.get st) begun) (hne : rest ≠ []) (h : begun ++ rest = bytes) (h2 : 2 ≤ bytes.length)
    (hp : ∀ sofar last, sofar ≠ [] → sofar ++ [last] = bytes → partialFrame sofar) :
    ∃ sofar last, sofar ++ [last] = bytes ∧
      canReceive (setLink st (receivingLink (s.links.get st) begun sofar) s) st = true ∧
      rest.foldl (receiveByte st) s =
        receiveByte st (setLink st (receivingLink (s.links.get st) begun sofar) s) last := by
  obtain ⟨more, last, rfl⟩ := exists_concat hne
  have hsplit : (begun ++ more) ++ [last] = bytes := by rw [← h, List.append_assoc]
  have hsofar : begun ++ more ≠ [] := by
    intro hnil
    rw [hnil] at hsplit
    rw [← hsplit] at h2
    exact absurd h2 (by simp)
  refine ⟨begun ++ more, last, hsplit, (canReceive_setLink (by rfl) (by rfl)).trans hc, ?_⟩
  rw [List.foldl_append, receiveBytes_partial hc hr (hp _ last hsofar hsplit)]
  rfl

/-- A frame is complete as its last bytes arrive. -/
theorem receiveBytes_complete {st : Station} {s : State} {unit seq cmd chk : Byte} {payload begun rest : List Byte}
    (hc : canReceive s st = true) (hr : HoldsBytes (s.links.get st) begun) (hne : rest ≠ [])
    (hp : payload.length ≤ 64) (h : begun ++ rest = frameBytes unit seq cmd payload chk) :
    ∃ sofar, rest.foldl (receiveByte st) s =
      completeFrame st (frameBytes unit seq cmd payload chk)
        (setLink st (receivingLink (s.links.get st) begun sofar) s) := by
  have hfull : (frameBytes unit seq cmd payload chk).length = payload.length + 6 := by simp [frameBytes]
  obtain ⟨sofar, last, hsplit, hc', hrun⟩ := receiveBytes_last hc hr hne h (by omega)
    (fun _ _ hs he => partialFrame_of_frame hp hs he)
  refine ⟨sofar, ?_⟩
  have hnat : (byteAt (frameBytes unit seq cmd payload chk) 2).toNat = payload.length + 2 := by
    show (BitVec.ofNat 8 (payload.length + 2)).toNat = _
    rw [BitVec.toNat_ofNat]
    omega
  rw [hrun, receiveByte_receiving hc' (by rw [setLink_get]; rfl), hsplit, if_neg (by omega), if_neg (by omega),
    if_pos (by omega)]

theorem addressed_setLink (st other : Station) (l : Link) (s : State) (unit : Byte) :
    addressed (setLink other l s) st unit = addressed s st unit := rfl

/-- What becomes of a complete frame (R147 to R149). -/
theorem completeFrame_frameBytes (st : Station) (unit seq cmd chk : Byte) (payload : List Byte) (s : State) :
    let good := checkByte (unit :: BitVec.ofNat 8 (payload.length + 2) :: seq :: cmd :: payload)
    completeFrame st (frameBytes unit seq cmd payload chk) s =
      if chk ≠ good then discardFaulty st s
      else if addressed s st unit = true then
        if (s.links.get st).overrun = true then discardFaulty st s
        else acceptFrame st { unit := unit, seq := seq, cmd := cmd, payload := payload } s
      else setLink st (s.links.get st).hunt s := by
  intro good
  have hgood : (byteSum ((frameBytes unit seq cmd payload chk).drop 1) == 0) = decide (chk = good) := by
    have h := byteSum_check (unit :: BitVec.ofNat 8 (payload.length + 2) :: seq :: cmd :: payload) chk
    rw [Bool.eq_iff_iff, beq_iff_eq, decide_eq_true_eq]
    exact h
  have hunit : byteAt (frameBytes unit seq cmd payload chk) 1 = unit := rfl
  unfold completeFrame
  rw [hgood, hunit, frameOf_frameBytes]
  dsimp only
  by_cases hchk : chk = good <;> by_cases ha : addressed s st unit = true <;>
    by_cases ho : (s.links.get st).overrun = true <;> simp [hchk, ha, ho]

/-! ### Accepted frames -/

/-- A unit as a frame enters its FIFO. -/
def acceptedLink (l : Link) (f : Frame) : Link :=
  { l.hunt with fifo := l.fifo ++ [f], pace := decide (l.fifo.length + 1 < 4) }

theorem acceptFrame_setLink (st : Station) (f : Frame) (l : Link) (s : State) :
    acceptFrame st f (setLink st l s) = setLink st (acceptedLink l f).takeNext s := by
  unfold acceptFrame
  dsimp only
  rw [setLink_get, setLink_setLink, takeFrame_setLink]
  rfl

/-- Settles O7: the complete frame is accepted, and a free unit takes it. -/
theorem goodFrameAccepted : Obligations.GoodFrameAccepted := by
  intro st s unit seq cmd payload begun rest hp hc hframe hne hr hroom haddr
  have hholds : HoldsBytes (s.links.get st) begun := hr.imp id fun h => ⟨h.1, h.2.1⟩
  obtain ⟨sofar, hrun⟩ := receiveBytes_complete (chk := checkByte _) hc hholds hne hp hframe
  have haddressed : addressed s st unit = true := by
    cases st with
    | press => rfl
    | loader => rfl
    | supervisor =>
      obtain h | h := haddr rfl <;> simp [addressed, h]
  have hover : (receivingLink (s.links.get st) begun sofar).overrun = false := by
    unfold receivingLink
    obtain ⟨rfl, -⟩ | ⟨hne, -, ho⟩ := hr
    · simpa using hroom
    · simp [hne, ho]
  rw [completeFrame_frameBytes, if_neg (by simp), addressed_setLink, if_pos haddressed, setLink_get, if_neg (by simp [hover])] at hrun
  rw [acceptFrame_setLink] at hrun
  generalize hl : acceptedLink (receivingLink (s.links.get st) begun sofar)
    { unit := unit, seq := seq, cmd := cmd, payload := payload } = l at hrun
  refine ⟨_, rfl, ?_⟩
  rw [hrun, setLink_get]
  have he : l.executing = (s.links.get st).executing := hl ▸ rfl
  have ht : l.transmitter = (s.links.get st).transmitter := hl ▸ rfl
  have hf : l.fifo = (s.links.get st).fifo ++ [{ unit := unit, seq := seq, cmd := cmd, payload := payload }] :=
    hl ▸ rfl
  have hreceiver : l.receiver = .hunting := hl ▸ rfl
  have hpointer : l.pointer = (s.links.get st).pointer := hl ▸ rfl
  have howed : l.resetOwed = (s.links.get st).resetOwed := hl ▸ rfl
  have hpace : l.pace = decide ((s.links.get st).fifo.length + 1 < 4) := hl ▸ rfl
  refine ⟨setLink_onlyLink .., (takeNext_receiver l).trans hreceiver, (takeNext_transmitter l).trans ht,
    (takeNext_pointer l).trans hpointer, ?_, fun hbusy => ?_⟩
  · rintro ⟨he', ht', hf', ho'⟩
    rw [takeNext_of_free (he.trans he') (ht.trans ht') (by rw [hf, hf']; rfl) (howed.trans ho')]
    exact ⟨rfl, rfl, rfl⟩
  · rw [takeNext_of_busy (by rwa [he, ht])]
    exact ⟨he, hf, hpace.trans (decide_eq_decide.2 (by omega))⟩

/-! ### Discarded frames -/

/-- A unit with bytes in reception hunts again. -/
theorem receivingLink_hunt (l : Link) (begun sofar : List Byte) :
    (receivingLink l begun sofar).hunt = { l with receiver := .hunting, overrun := false } := rfl

theorem discardFaulty_receiving {st : Station} {s : State} (begun sofar : List Byte) :
    LinkErrorOnly st s.ntc
        (discardFaulty st (setLink st (receivingLink (s.links.get st) begun sofar) s)).ntc ∧
      OnlyLink st s
        ((discardFaulty st (setLink st (receivingLink (s.links.get st) begun sofar) s)).withNtc s.ntc) ∧
      (discardFaulty st (setLink st (receivingLink (s.links.get st) begun sofar) s)).links.get st =
        { s.links.get st with receiver := .hunting, overrun := false } := by
  obtain ⟨h1, h2, h3⟩ := discardFaulty_spec st (setLink st (receivingLink (s.links.get st) begun sofar) s)
  rw [setLink_get, receivingLink_hunt] at h3
  exact ⟨h1, (setLink_onlyLink ..).trans h2, h3⟩

/-- Settles O8: a faulty frame ends in `discardFaulty`, and a foreign one in hunting alone. -/
theorem framesDiscarded : Obligations.FramesDiscarded := by
  intro st s unit begun rest hc hne hr hunting discarded
  constructor
  · intro seq cmd chk payload hp hframe good
    obtain ⟨sofar, hrun⟩ := receiveBytes_complete hc hr hne hp hframe
    rw [completeFrame_frameBytes, addressed_setLink] at hrun
    refine ⟨fun hbad => ⟨_, rfl, ?_⟩, fun hgood hst h0 hunit => ⟨_, rfl, ?_⟩⟩
    · have hdiscard : rest.foldl (receiveByte st) s =
          discardFaulty st (setLink st (receivingLink (s.links.get st) begun sofar) s) := by
        rw [hrun]
        by_cases hchk : chk = good
        · obtain hne | ⟨ha, ho⟩ := hbad
          · exact absurd hchk hne
          · rw [if_neg (by simpa using hchk), if_pos ha, setLink_get, if_pos]
            unfold receivingLink
            split at ho
            · rename_i hnil
              simpa [hnil] using ho
            · rename_i hnil
              simpa [hnil] using ho
        · rw [if_pos hchk]
      rw [hdiscard]
      exact discardFaulty_receiving begun sofar
    · have ha : ¬addressed s st unit = true := by
        subst hst
        simpa [addressed] using ⟨hunit, h0⟩
      rw [hrun, if_neg (by simpa using hgood), if_neg ha, setLink_get, setLink_setLink]
      exact ⟨setLink_onlyLink .., setLink_get ..⟩
  · intro len hlen hframe
    have hpartial : ∀ sofar last, sofar ≠ [] → sofar ++ [last] = [0xA5, unit, len] → partialFrame sofar := by
      intro sofar last hs h
      have hl := congrArg List.length h
      rw [List.length_append, List.length_singleton] at hl
      have hhead := congrArg List.head? h
      rw [List.head?_append_of_ne_nil _ hs] at hhead
      exact ⟨hhead, fun h3 => absurd hl (by simp; omega)⟩
    obtain ⟨sofar, last, hsplit, hc', hrun⟩ := receiveBytes_last hc hr hne hframe (by simp) hpartial
    refine ⟨_, rfl, ?_⟩
    rw [hrun, receiveByte_receiving hc' (by rw [setLink_get]; rfl), hsplit, if_neg (by simp),
      if_pos (by simpa [byteAt] using hlen)]
    exact discardFaulty_receiving begun sofar

end Sys2Proof.Machine
end

section
/-! PROOFS. The execution of a frame's command: the checks of R150, and the reply (R146, R148, R150). -/

namespace Sys2Proof.Machine

/-! ### The reply to the frame under execution -/

theorem settled_of_executing {i : Instr} {st : Station} {s : State} {e : Executing} (hi : i.station = some st)
    (he : (s.links.get st).executing = some e) : settled i s = s := by
  have hno : NoResetDue st s := by
    rintro rfl
    have he' : s.links.press.executing = some e := he
    simp [resetDue, he']
  unfold settled
  rw [hi]
  exact settleReset_eq hno

/-- An owner's act leaves a unit as it was but for its pointer. -/
theorem Owned.get {st : Station} {v u w : State} (h : Owned st v u w) (hl : u.links = v.links) :
    ∃ a, w.links.get st = { v.links.get st with pointer := a } := by
  cases h with
  | acted => exact ⟨(v.links.get st).pointer, by rw [hl]⟩
  | pointed form f => exact ⟨f, by rw [← hl]; exact setLink_get ..⟩

/-- The command of the frame under execution is completed with an answer. -/
theorem exec_completes {i : Instr} {st : Station} {s t : State} {e : Executing} (hi : i.station = some st)
    (hd : decodeRequest st e.frame.cmd e.frame.payload = i) (he : (s.links.get st).executing = some e)
    (h : exec i s = .next t) :
    ∃ a p, t.links.get st =
      Link.complete st e a
        (0x5B :: BitVec.ofNat 8 s.unit :: BitVec.ofNat 8 (a.payload.length + 3) :: e.frame.seq :: e.frame.cmd ::
          BitVec.ofNat 8 a.status.code :: (a.payload ++
            [checkByte (BitVec.ofNat 8 s.unit :: BitVec.ofNat 8 (a.payload.length + 3) :: e.frame.seq ::
              e.frame.cmd :: BitVec.ofNat 8 a.status.code :: a.payload)]))
        { s.links.get st with pointer := p } := by
  obtain ⟨u, ha, hf⟩ := exec_finish h fun straps hp => by
    subst hp
    cases hi
  rw [settled_of_executing hi he] at ha hf
  cases hf with
  | done hn => rw [hi] at hn; cases hn
  | links _ hrow =>
    have hn : i.station = none := by cases hrow <;> rfl
    rw [hi] at hn
    cases hn
  | replied st' a w hst hw =>
    obtain rfl : st' = st := Option.some.inj (hst.symm.trans hi)
    obtain ⟨p, hp⟩ := hw.get ha.links
    have hunit : w.unit = s.unit := (ha.ownKept.trans hw.sameButLinks.ownKept).unit
    refine ⟨a, p, ?_⟩
    unfold reply
    have hew : (w.links.get st').executing = some e := by rw [hp]; exact he
    dsimp only
    rw [hew]
    dsimp only
    rw [if_pos hd, setLink_get, hp]
    simp only [replyFrame, hunit]
    rfl

/-- Where the reply of a completed command goes (R144, R148, R152). -/
theorem complete_transmitter (st : Station) (e : Executing) (a : Answer) (reply : List Byte) (l : Link) :
    (l.complete st e a reply).answer = some a ∧
      if (st = .supervisor ∧ e.frame.unit = 0) ∨ e.dropReply = true then
        (l.complete st e a reply).transmitter = l.transmitter
      else
        (l.complete st e a reply).executing = none ∧
        (l.complete st e a reply).transmitter =
          if st = .supervisor ∧ l.isReceiving = true then .ready reply else .sending reply := by
  refine ⟨(complete_answer_pointer st e a reply l).1, ?_⟩
  have hcond : (isBroadcast st e.frame || e.dropReply) = true ↔
      (st = .supervisor ∧ e.frame.unit = 0) ∨ e.dropReply = true := by simp [isBroadcast]
  unfold Link.complete
  dsimp only
  by_cases hb : (st = .supervisor ∧ e.frame.unit = 0) ∨ e.dropReply = true
  · rw [if_pos hb, if_pos (hcond.2 hb), takeNext_transmitter]
  · rw [if_neg hb, if_neg (mt hcond.1 hb)]
    have hr : (st == .supervisor &&
        Link.isReceiving { l with executing := none, answer := some a }) = true ↔
        st = .supervisor ∧ l.isReceiving = true := by
      rw [Bool.and_eq_true, beq_iff_eq]
      rfl
    by_cases hh : st = .supervisor ∧ l.isReceiving = true
    · rw [if_pos hh, if_pos (hr.2 hh)]
      exact ⟨rfl, rfl⟩
    · rw [if_neg hh, if_neg (mt hr.1 hh)]
      exact ⟨rfl, rfl⟩

/-! ### The command table -/

theorem mem_codes_of_commandRow {code : Nat} {row : CommandRow} (h : commandRow code = some row) :
    code ∈ [0x01, 0x02, 0x03, 0x08, 0x09, 0x0A, 0x10, 0x11, 0x12, 0x18, 0x19, 0x1A, 0x1C, 0x1D, 0x20, 0x21, 0x22,
      0x23, 0x28, 0x29, 0x2A, 0x2B, 0x30, 0x31, 0x32, 0x33] := by
  have hcode : row.code = code := by simpa using List.find?_some h
  have hmem : row.code ∈ commandTable.map (·.code) := List.mem_map_of_mem (List.mem_of_find?_eq_some h)
  rwa [hcode] at hmem

/-- A code with a line in the table names a command whose owner is reached by the checks of that line. -/
theorem exec_decodeRequest {st : Station} {cmd : Byte} {payload : List Byte} {row : CommandRow}
    (h : commandRow cmd.toNat = some row) :
    ∃ (α : Type) (parse : List Byte → α) (owner : α → State → State × Answer),
      (decodeRequest st cmd payload).station = some st ∧
      ∀ s, exec (decodeRequest st cmd payload) s =
        .next (command st cmd.toNat (decodeRequest st cmd payload) (sentItems cmd.toNat parse payload) owner s) := by
  unfold decodeRequest
  split
  case h_27 =>
    have hcode := mem_codes_of_commandRow h
    simp only [List.mem_cons, List.not_mem_nil, or_false, imp_false] at *
    omega
  all_goals
    rename_i hcmd
    rw [hcmd]
    exact ⟨_, _, _, rfl, fun _ => rfl⟩

theorem decodeRequest_unknown {st : Station} {cmd : Byte} {payload : List Byte} (h : commandRow cmd.toNat = none) :
    decodeRequest st cmd payload = .unknownCommand st cmd := by
  unfold decodeRequest
  split
  case h_27 => rfl
  all_goals
    rename_i hcmd
    rw [hcmd] at h
    exact absurd h (by decide)

theorem decodeRequest_station (st : Station) (cmd : Byte) (payload : List Byte) :
    (decodeRequest st cmd payload).station = some st := by
  unfold decodeRequest
  split <;> rfl

/-- A table looked up by its keys. -/
theorem map_find?_eq_lookup {α β : Type} (key : α → Nat) (f : α → β) (l : List α) (k : Nat) :
    (l.find? fun x => key x == k).map f = List.lookup k (l.map fun x => (key x, f x)) := by
  induction l with
  | nil => rfl
  | cons x rest ih =>
    rw [List.find?_cons, List.map_cons, List.lookup_cons, ← ih, BEq.comm (a := k)]
    cases key x == k <;> rfl

theorem answers_of_refused {α : Type} {i : Instr} {st : Station} {code : Nat} {p : Sent α}
    {owner : α → State → State × Answer} {s : State} {ans : Answer}
    (he : exec i s = .next (command st code i p owner s)) (hr : NoResetDue st s)
    (hs : serve st code p owner s = (s, ans)) : Answers i st s s ans := by
  have hc : command st code i p owner s = reply st i ans s := by
    unfold command
    rw [settleReset_eq hr, hs]
  obtain ⟨h1, h2, h3⟩ := reply_spec st i ans s
  exact ⟨_, by rw [he, hc], h1.1, h2, h3, h1.2⟩

/-- Settles O12: the checks of `serve` in their order, and the tables compared line by line. -/
theorem linkUnitChecks : Obligations.LinkUnitChecks := by
  refine ⟨fun cmd => ?_, rfl, rfl, fun st cmd payload s hr => ⟨fun h => ⟨decodeRequest_unknown h, ?_⟩, ?_⟩⟩
  · exact map_find?_eq_lookup CommandRow.code (fun row => (row.press, row.loader, row.supervisor, row.lens))
      commandTable cmd
  · obtain ⟨h1, h2, h3⟩ := reply_spec st (.unknownCommand st cmd) (.bare .unknownCommand) s
    refine ⟨_, rfl, ?_⟩
    rw [settleReset_eq hr]
    exact ⟨h1.1, h2, h3, h1.2⟩
  · intro row hrow
    obtain ⟨α, parse, owner, -, hexec⟩ := exec_decodeRequest (st := st) (payload := payload) hrow
    have hperm : permitted cmd.toNat st = row.permits st := by simp [permitted, hrow]
    have hlens : commandLens cmd.toNat = row.lens := by simp [commandLens, hrow]
    refine ⟨fun hp => answers_of_refused (hexec s) hr ?_, fun hp hlen => answers_of_refused (hexec s) hr ?_⟩
    · unfold serve
      rw [hperm, hp]
      rfl
    · unfold serve sentItems
      rw [hperm, hp, hlens, if_neg hlen]
      rfl

/-- Settles O11: the frame's command is completed by the reply that `replyFrame` forms. -/
theorem frameUnderExecutionAnswered : Obligations.FrameUnderExecutionAnswered := by
  intro st s e he
  have hnext : ∃ t, exec (decodeRequest st e.frame.cmd e.frame.payload) s = .next t := by
    cases hrow : commandRow e.frame.cmd.toNat with
    | none => exact ⟨_, by rw [decodeRequest_unknown hrow]; rfl⟩
    | some row =>
      obtain ⟨_, _, _, -, h⟩ := exec_decodeRequest (st := st) (payload := e.frame.payload) hrow
      exact ⟨_, h s⟩
  obtain ⟨t, ht⟩ := hnext
  obtain ⟨a, p, hl⟩ := exec_completes (decodeRequest_station ..) rfl he ht
  obtain ⟨hans, hcase⟩ := complete_transmitter st e a _ { s.links.get st with pointer := p }
  refine ⟨t, a, _, ht, by rw [hl]; exact hans, (byteSum_check (_ :: _ :: _ :: _ :: _ :: a.payload) _).2 rfl, ?_⟩
  rw [hl]
  exact hcase

end Sys2Proof.Machine
end

section
/-! PROOFS. The parameter space: the order of the fields, what they hold, and VALIDITY (R123 to R128). -/

namespace Sys2Proof.Machine

/-! ### The order of the fields (R123, R127) -/

theorem mem_tableFields {a : FieldAddress} {table first records n : Nat} :
    a ∈ tableFields table first records n ↔
      a.table = table ∧ first ≤ a.record ∧ a.record < first + records ∧ a.field < n := by
  obtain ⟨t, r, f⟩ := a
  simp only [tableFields, List.mem_flatten, List.mem_map, List.mem_range, exists_exists_and_eq_and,
    FieldAddress.mk.injEq]
  constructor
  · rintro ⟨record, hr, field, hf, rfl, rfl, rfl⟩
    omega
  · rintro ⟨rfl, hfirst, hr, hf⟩
    exact ⟨r - first, by omega, f, hf, rfl, by omega, rfl⟩

theorem mem_fieldOrder_iff (a : FieldAddress) : a ∈ fieldOrder ↔ a.named = true := by
  rw [named_iff, lt_fieldCount_iff]
  simp only [fieldOrder, List.mem_append, mem_tableFields]
  omega

/-- Each field is followed by the field that NEXT goes to, and that field's PREV goes back. -/
theorem fieldOrder_isChain :
    List.IsChain (fun a b : FieldAddress => a.after = some b ∧ b.before = some a) fieldOrder := by
  decide +kernel

theorem fieldOrder_length : fieldOrder.length = 474 := by decide +kernel

theorem fieldOrder_last {a : FieldAddress} (h : fieldOrder[473]? = some a) : a.after = none := by
  have hlast : fieldOrder[473]? = some { table := 3, record := 15, field := 24 } := by decide +kernel
  rw [hlast] at h
  cases h
  decide

/-- NEXT and PREV walk the order. -/
theorem after_before_of_fieldOrder {k : Nat} {a : FieldAddress} (h : fieldOrder[k]? = some a) :
    a.after = fieldOrder[k + 1]? ∧ a.before = if k = 0 then none else fieldOrder[k - 1]? := by
  have hchain := List.isChain_iff_getElem.1 fieldOrder_isChain
  obtain ⟨hk, rfl⟩ := List.getElem?_eq_some_iff.1 h
  constructor
  · by_cases hnext : k + 1 < fieldOrder.length
    · rw [List.getElem?_eq_getElem hnext]
      exact (hchain k hnext).1
    · rw [List.getElem?_eq_none (by omega)]
      have hlast : k = 473 := by rw [fieldOrder_length] at hnext hk; omega
      subst hlast
      exact fieldOrder_last h
  · split
    · rename_i h0
      subst h0
      cases h
      rfl
    · obtain ⟨j, rfl⟩ : ∃ j, k = j + 1 := ⟨k - 1, by omega⟩
      rw [Nat.add_sub_cancel, List.getElem?_eq_getElem (by omega)]
      exact (hchain j hk).2

theorem resolve_fieldOrder (pointer : FieldAddress) (x : AddressForm) :
    let named : FieldAddress := { table := x.table, record := x.record, field := x.field }
    (x.form = 0 → (named ∈ fieldOrder → resolve pointer x = some named) ∧
      (named ∉ fieldOrder → resolve pointer x = none)) ∧
    (∀ k, fieldOrder[k]? = some pointer →
      (x.form = 1 → resolve pointer x = fieldOrder[k + 1]?) ∧
      (x.form = 2 → resolve pointer x = if k = 0 then none else fieldOrder[k - 1]?)) ∧
    (x.form = 3 → resolve pointer x = some pointer) ∧ (4 ≤ x.form → resolve pointer x = none) := by
  intro named
  unfold resolve
  refine ⟨fun h => ⟨fun hn => ?_, fun hn => ?_⟩, fun k hk => ?_, fun h => ?_, fun h => ?_⟩
  · rw [h]
    exact if_pos ((mem_fieldOrder_iff _).1 hn)
  · rw [h]
    exact if_neg (mt (mem_fieldOrder_iff _).2 hn)
  · obtain ⟨ha, hb⟩ := after_before_of_fieldOrder hk
    exact ⟨fun h => by rw [h]; exact ha, fun h => by rw [h]; exact hb⟩
  · rw [h]
    rfl
  · split
    case h_5 => rfl
    all_goals omega

/-! ### The kinds and widths of the fields (R124, R129, R146) -/

theorem readOnlyField_iff {a : FieldAddress} (h : a.named = true) :
    readOnlyField a = true ↔
      (a.table = 0 ∧ (a.field = 2 ∨ a.field = 3)) ∨ (a.table = 1 ∧ 3 ≤ a.field) ∨
        (a.table = 2 ∧ (a.field = 2 ∨ a.record = 1 ∧ a.field = 0)) ∨
        (a.table = 3 ∧ (a.record = 0 ∨ a.field = 23 ∨ a.field = 24)) := by
  rw [named_iff, lt_fieldCount_iff] at h
  obtain ⟨table, record, field⟩ := a
  obtain ⟨ht, h⟩ | ⟨ht, h⟩ | ⟨ht, h⟩ | ⟨ht, h⟩ := h <;> dsimp only at ht <;> subst ht <;>
    simp [readOnlyField] at h ⊢ <;> omega

/-- The greatest values of the fields of a table's records (R123, R124). -/
def greatestValues : Nat → List Nat
  | 0 => [4000000, 200, 6400, 65535]
  | 1 => [800, 800000, 1, 2, 4, 65535, 3, 800000]
  | 2 => [6400, 256, 65535]
  | _ =>
    [400000, 128, 240, 2000, 200, 600, 14000, 14000, 14000, 14000, 14000, 14000, 14000, 14000,
      14000, 14000, 14000, 15000, 14000, 120, 3600, 3, 1, 7, 1]

/-- A number of bytes is the fewest that hold a value when one byte less is too few. -/
theorem fewest_bytes {v k : Nat} (h : k = 1 ∨ 256 ^ (k - 1) ≤ v) {n : Nat} (hn : 1 ≤ n) (hv : v < 256 ^ n) :
    k ≤ n := by
  obtain rfl | hk := h
  · exact hn
  · by_contra hlt
    have : 256 ^ n ≤ 256 ^ (k - 1) := Nat.pow_le_pow_right (by omega) (by omega)
    omega

theorem fieldBytes_fits {a : FieldAddress} (h : a.named = true) :
    ∃ v, (greatestValues a.table)[a.field]? = some v ∧ v < 256 ^ fieldBytes a ∧
      (fieldBytes a = 1 ∨ 256 ^ (fieldBytes a - 1) ≤ v) := by
  rw [named_iff, lt_fieldCount_iff] at h
  obtain ⟨table, record, field⟩ := a
  have key : ∀ t f, (t, f) ∈ [(0, 4), (1, 8), (2, 3), (3, 25)] → ∀ field < f,
      ∃ v ∈ (greatestValues t)[field]?, v < 256 ^ fieldBytes { table := t, record := 0, field := field } ∧
        (fieldBytes { table := t, record := 0, field := field } = 1 ∨
          256 ^ (fieldBytes { table := t, record := 0, field := field } - 1) ≤ v) := by
    simp only [List.mem_cons, Prod.mk.injEq, List.not_mem_nil, or_false]
    rintro t f (⟨rfl, rfl⟩ | ⟨rfl, rfl⟩ | ⟨rfl, rfl⟩ | ⟨rfl, rfl⟩) <;> decide
  obtain ⟨ht, h⟩ | ⟨ht, h⟩ | ⟨ht, h⟩ | ⟨ht, h⟩ := h <;> dsimp only at ht h <;> subst ht
  · exact key 0 4 (by simp) field h.2
  · exact key 1 8 (by simp) field h.2.2
  · exact key 2 3 (by simp) field h.2
  · exact key 3 25 (by simp) field h.2

theorem recipeLive_iff (n : Nat) :
    recipeLive n = true ↔ n ∈ [6, 7, 8, 9, 10, 11, 12, 13, 14, 15, 16, 18] := by
  simp only [recipeLive, Bool.or_eq_true, Bool.and_eq_true, decide_eq_true_eq, beq_iff_eq, List.mem_cons,
    List.not_mem_nil, or_false]
  omega

/-! ### What the fields hold (R11, R86, R94, R123, R124) -/

theorem rowLength_eq (s : State) :
    rowLength s = s.zones.z1.length + s.zones.z2.length + s.zones.z3.length + s.zones.z4.length +
      s.zones.z5.length + s.zones.z6.length + s.zones.z7.length + s.zones.z8.length := by
  simp [rowLength, ZoneNo.all, PerZone.get]
  omega

theorem recordZone_number (z : ZoneNo) : recordZone z.number = z := by cases z <;> rfl

/-- A field of a zone record (R86, R123). -/
def zoneField (z : ZoneRecord) : Nat → Option Nat
  | 0 => some z.length
  | 1 => z.rating
  | 2 => some (flagCode z.enable)
  | 3 => some z.state.code
  | 4 => z.lastStatus.map (·.code)
  | 5 => some z.lastMean
  | 6 => some z.missCount
  | _ => some z.lastGrant

theorem readField_zone (s : State) (z : ZoneNo) (field : Nat) :
    readField s { table := 1, record := z.number, field := field } = zoneField (s.zones.get z) field := by
  unfold readField
  simp only [recordZone_number] <;> rfl

theorem zoneFields_eq (s : State) (z : ZoneNo) :
    ((List.range 8).map fun field => readField s { table := 1, record := z.number, field := field }) =
      [some (s.zones.get z).length, (s.zones.get z).rating, some (flagCode (s.zones.get z).enable),
       some (s.zones.get z).state.code, (s.zones.get z).lastStatus.map (·.code), some (s.zones.get z).lastMean,
       some (s.zones.get z).missCount, some (s.zones.get z).lastGrant] := by
  simp only [readField_zone]
  rfl

theorem writtenMark_eq (s : State) (a : FieldAddress) :
    writtenMark s a =
      if a.table = 1 ∧ a.field = 1 then (s.zones.get (recordZone a.record)).rating.isSome
      else if a.table = 3 ∧ a.field < 23 ∧ a.record ≠ 0 then
        (s.pst.recipes.getD (a.record - 1) .reset).written.getLsbD a.field
      else true := by
  unfold writtenMark recipeWritten
  by_cases h1 : a.table = 1 ∧ a.field = 1
  · rw [if_pos h1, if_pos h1]
  · rw [if_neg h1, if_neg h1]
    by_cases h3 : a.table = 3 ∧ a.field < 23
    · by_cases h0 : a.record = 0 <;> simp [h3, h0]
    · rw [if_neg h3, if_neg fun h => h3 ⟨h.1, h.2.1⟩]

theorem recipeInUse_spec (s : State) (n : Nat) :
    recipeInUse s n = true ↔
      (∃ b ∈ s.trk.row, b.recipe = n) ∨ (∃ g ∈ s.trk.gate, g.billet.recipe = n) ∨
        (∃ p, s.trk.push = some p ∧ p.recipe = n) ∨ ∃ l ∈ s.lot.queue, l.recipe = n := by
  unfold recipeInUse
  cases hp : s.trk.push <;> simp [or_assoc]

/-- Settles O15: the order by its chain, and each field by its table. -/
theorem fieldsByAddress : Obligations.FieldsByAddress := by
  refine ⟨resolve_fieldOrder, fun a ha => ?_, recipeLive_iff, fun s => ?_⟩
  · have hn := (mem_fieldOrder_iff a).1 ha
    refine ⟨readOnlyField_iff hn, ?_⟩
    obtain ⟨v, hv, hlt, hmin⟩ := fieldBytes_fits hn
    exact ⟨v, hv, hlt, fun n h1 h => fewest_bytes hmin h1 h⟩
  · refine ⟨recipeInUse_spec s, ?_⟩
    intro row fields
    have hrow : row = rowLength s := (rowLength_eq s).symm
    refine ⟨?_, fun z => ?_, ?_, ?_, fun n hn => rfl, rfl, fun a _ => writtenMark_eq s a⟩
    · rw [hrow]
      rfl
    · refine (zoneFields_eq s z).trans ?_
      obtain hstatus | ⟨status, hstatus⟩ := (s.zones.get z).lastStatus.eq_none_or_eq_some <;>
        cases hstate : (s.zones.get z).state <;> simp only [hstatus]
      all_goals rfl
    · rfl
    · rw [hrow]
      rfl

/-! ### VALIDITY (R125) -/

theorem written_iff (r : Recipe) : r.written = BitVec.allOnes 23 ↔ ∀ k < 23, r.written.getLsbD k = true := by
  constructor
  · intro h k hk
    rw [h, BitVec.getLsbD_allOnes]
    exact decide_eq_true hk
  · intro h
    exact BitVec.eq_of_getLsbD_eq fun k hk => by
      rw [h k hk, BitVec.getLsbD_allOnes]
      exact (decide_eq_true hk).symm

theorem relations_getElem (f : RecipeFields) {k : Nat} (hk : k < (relations f).length) :
    (relations f)[k] = true ↔ relation f (k + 1) := by
  have h6 : k < 6 := hk
  interval_cases k <;> exact decide_eq_true_iff

theorem relationsHold_iff (f : RecipeFields) :
    relationsHold f = true ↔ ∀ k, 1 ≤ k → k ≤ 6 → relation f k := by
  unfold relationsHold
  rw [List.all_eq_true, List.forall_mem_iff_getElem]
  constructor
  · intro h k h1 h6
    obtain ⟨j, rfl⟩ : ∃ j, k = j + 1 := ⟨k - 1, by omega⟩
    have hj : j < (relations f).length := by simp [relations]; omega
    exact (relations_getElem f hj).1 (h j hj)
  · intro h k hk
    have h6 : k < 6 := hk
    exact (relations_getElem f hk).2 (h (k + 1) (by omega) (by omega))

/-- VALIDITY names the first relation that fails (R125). -/
theorem validity_eq_succ_iff (r : Recipe) {k : Nat} (h1 : 1 ≤ k) (h6 : k ≤ 6) :
    r.validity = k + 1 ↔
      r.written = BitVec.allOnes 23 ∧ (∀ j, 1 ≤ j → j < k → relation r.fields j) ∧ ¬relation r.fields k := by
  unfold Recipe.validity
  split
  · rename_i hw
    rw [and_iff_right hw]
    obtain ⟨i, rfl⟩ : ∃ i, k = i + 1 := ⟨k - 1, by omega⟩
    have hi : i < (relations r.fields).length := by simp [relations]; omega
    have hfind : (relations r.fields).findIdx? (· == false) = some i ↔
        (∀ j, 1 ≤ j → j < i + 1 → relation r.fields j) ∧ ¬relation r.fields (i + 1) := by
      rw [List.findIdx?_eq_some_iff_getElem, ← relations_getElem r.fields hi]
      constructor
      · rintro ⟨_, hfail, hbefore⟩
        refine ⟨fun j h1 hj => ?_, by simpa using hfail⟩
        obtain ⟨m, rfl⟩ : ∃ m, j = m + 1 := ⟨j - 1, by omega⟩
        exact (relations_getElem r.fields (by omega)).1 (by simpa using hbefore m (by omega))
      · rintro ⟨hbefore, hfail⟩
        refine ⟨hi, by simpa using hfail, fun j hj => ?_⟩
        simpa using (relations_getElem r.fields (by omega)).2 (hbefore (j + 1) (by omega) (by omega))
    rw [← hfind]
    cases (relations r.fields).findIdx? (· == false) <;> simp
  · rename_i hw
    exact iff_of_false (by omega) fun h => hw h.1

theorem validity_eq_one_iff (r : Recipe) : r.validity = 1 ↔ r.written ≠ BitVec.allOnes 23 := by
  unfold Recipe.validity
  split
  · rename_i hw
    cases (relations r.fields).findIdx? (· == false) <;> simp [hw]
  · rename_i hw
    exact iff_of_true rfl hw

/-- Settles O21: the first failing test, by the place of the first failing relation. -/
theorem validityNamesFirstFailure : Obligations.ValidityNamesFirstFailure := by
  intro n s h1 h15 written
  have h0 : n ≠ 0 := by omega
  have hval : recipeValidity s n = (s.pst.recipes.getD (n - 1) .reset).validity := if_neg h0
  have hfields : recipeFields s n = (s.pst.recipes.getD (n - 1) .reset).fields := if_neg h0
  have hwritten : written ↔ (s.pst.recipes.getD (n - 1) .reset).written = BitVec.allOnes 23 := by
    rw [written_iff]
    simp only [written, recipeWritten, if_neg h0]
  rw [hval, hfields, hwritten]
  refine ⟨?_, validity_eq_one_iff _, fun k hk1 hk6 => validity_eq_succ_iff _ hk1 hk6⟩
  rw [validity_eq_zero_iff, relationsHold_iff]

end Sys2Proof.Machine
end

section
/-! PROOFS. EXAMINE, DEPOSIT and LOAD RECIPE (R128 to R132). -/

namespace Sys2Proof.Machine

/-! ### Values fitted to their ranges (R130) -/

theorem storedFor_clamp {s : State} {a : FieldAddress} {sent stored : Nat}
    (hle : (fieldRange s a).1 ≤ (fieldRange s a).2) (hne : ¬(a.table = 0 ∧ a.field = 1)) :
    StoredFor s a sent stored ↔ stored = clamp (fieldRange s a).1 (fieldRange s a).2 sent := by
  unfold StoredFor clamp
  rw [if_neg hne]
  generalize (fieldRange s a).1 = lo at *
  generalize (fieldRange s a).2 = hi at *
  omega

theorem storedFor_recipe {s : State} {a : FieldAddress} {sent stored : Nat} (ht : a.table = 3) :
    StoredFor s a sent stored ↔ stored = fitRecipeField a.field sent := by
  obtain ⟨table, record, field⟩ := a
  dsimp only at ht
  subst ht
  exact storedFor_clamp (recipeRange_le field) (by simp)

/-! ### LOAD RECIPE (R132) -/

/-- A recipe stored is the one that is found there, and every other stays. -/
theorem storeRecipe_getD {s : State} {n m : Nat} (hn : 1 ≤ n) (h15 : n ≤ 15) (hl : s.pst.recipes.length = 15)
    (r : Recipe) (hm : m ≠ 0) :
    (storeRecipe n r s).pst.recipes.getD (m - 1) .reset =
      if m = n then r else s.pst.recipes.getD (m - 1) .reset := by
  show (s.pst.recipes.set (n - 1) r).getD (m - 1) .reset = _
  rw [List.getD_eq_getElem?_getD, List.getElem?_set, List.getD_eq_getElem?_getD]
  by_cases he : m = n
  · subst he
    rw [if_pos rfl, if_pos rfl, if_pos (by omega)]
    rfl
  · rw [if_neg he, if_neg (by omega)]

theorem storeRecipe_other {s : State} {n m : Nat} (hn : 1 ≤ n) (h15 : n ≤ 15) (hl : s.pst.recipes.length = 15)
    (r : Recipe) (hm : m ≠ n) :
    recipeFields (storeRecipe n r s) m = recipeFields s m ∧
      recipeValidity (storeRecipe n r s) m = recipeValidity s m ∧
      ∀ k, recipeWritten (storeRecipe n r s) m k = recipeWritten s m k := by
  unfold recipeFields recipeValidity recipeWritten
  by_cases h0 : m = 0
  · simp only [h0, if_true, implies_true, and_self]
  · simp only [if_neg h0, storeRecipe_getD hn h15 hl r h0, if_neg hm, implies_true, and_self]

theorem storeRecipe_same {s : State} {n : Nat} (hn : 1 ≤ n) (h15 : n ≤ 15) (hl : s.pst.recipes.length = 15)
    (r : Recipe) :
    recipeFields (storeRecipe n r s) n = r.fields ∧ recipeValidity (storeRecipe n r s) n = r.validity ∧
      ∀ k, recipeWritten (storeRecipe n r s) n k = r.written.getLsbD k := by
  unfold recipeFields recipeValidity recipeWritten
  have h0 : n ≠ 0 := by omega
  simp only [if_neg h0, storeRecipe_getD hn h15 hl r h0, if_true, implies_true, and_self]

/-- A sum of distinct powers of two has the bits that are in it. -/
theorem testBit_sum_powers (p : Nat → Prop) [DecidablePred p] (k : Nat) :
    ((List.range k).map fun n => if p n then 0 else 2 ^ n).sum < 2 ^ k ∧
      ∀ n < k, ((List.range k).map fun n => if p n then 0 else 2 ^ n).sum.testBit n = !decide (p n) := by
  induction k with
  | zero => simp
  | succ k ih =>
    obtain ⟨hlt, hbits⟩ := ih
    rw [List.range_succ, List.map_append, List.sum_append]
    generalize ((List.range k).map fun n => if p n then 0 else 2 ^ n).sum = x at *
    simp only [List.map_singleton, List.sum_singleton]
    by_cases hk : p k
    · rw [if_pos hk, Nat.add_zero]
      refine ⟨by omega, fun n hn => ?_⟩
      obtain hn | rfl : n < k ∨ n = k := by omega
      · exact hbits n hn
      · rw [Nat.testBit_eq_false_of_lt hlt]
        simp [hk]
    · rw [if_neg hk, Nat.add_comm]
      refine ⟨by omega, fun n hn => ?_⟩
      obtain hn | rfl : n < k ∨ n = k := by omega
      · rw [Nat.testBit_two_pow_add_gt hn]
        exact hbits n hn
      · rw [Nat.testBit_two_pow_add_eq, Nat.testBit_eq_false_of_lt hlt]
        simp [hk]

theorem fittedSet_spec (f : RecipeFields) :
    fittedSet f < 2 ^ 23 ∧ ∀ n < 23, (fittedSet f).testBit n = true ↔
      fitRecipeField n (recipeField f n) ≠ recipeField f n := by
  obtain ⟨hlt, hbits⟩ := testBit_sum_powers (fun n => fitRecipeField n (recipeField f n) = recipeField f n) 23
  refine ⟨hlt, fun n hn => ?_⟩
  have h : (fittedSet f).testBit n = !decide (fitRecipeField n (recipeField f n) = recipeField f n) := hbits n hn
  rw [h]
  simp

/-- A recipe as LOAD RECIPE writes it. -/
def loadedRecipe (f : RecipeFields) : Recipe := { fields := fitFields f, written := BitVec.allOnes 23 }

/-- Settles O20: the branches of `pstLoad`, and the recipe that it stores. -/
theorem loadRecipeWritesWhole : Obligations.LoadRecipeWritesWhole := by
  intro x s hlen
  have hans : ∀ {u ans}, pstLoad x s = (u, ans) →
      Answers (.loadRecipe .supervisor (.items x)) .supervisor s u ans := fun h =>
    answers_of_owner rfl (by decide) (.of_ne (by decide)) h
  refine ⟨fun h => hans ?_, fun h => hans ?_, fun h1 h15 hu => hans ?_, fun h1 h15 hu => ?_⟩
  · exact if_pos h
  · unfold pstLoad
    rw [if_neg (by omega), if_pos h]
    rfl
  · unfold pstLoad
    rw [if_neg (by omega), if_neg (by omega), if_pos hu]
    rfl
  · obtain ⟨hfields, hval, hwritten⟩ := storeRecipe_same h1 h15 hlen (loadedRecipe x.fields)
    obtain ⟨hlt, hbits⟩ := fittedSet_spec x.fields
    refine ⟨storeRecipe x.slot (loadedRecipe x.fields) s, fittedSet x.fields, fun n hn => ⟨?_, ?_, ?_⟩, hlt,
      fun m hm => storeRecipe_other h1 h15 hlen _ hm, rfl, hans ?_⟩
    · rw [hwritten]
      exact (written_iff _).1 rfl n hn
    · rw [storedFor_recipe rfl, hfields]
      exact recipeField_fitFields _ hn
    · rw [hfields]
      exact (hbits n hn).trans (by rw [loadedRecipe, recipeField_fitFields _ hn])
    · unfold pstLoad
      rw [if_neg (by omega), if_neg (by omega), if_neg (by simp [hu])]
      rw [hval]
      rfl

/-! ### EXAMINE (R128) -/

theorem leBytes_one (v : Nat) : leBytes 1 v = [BitVec.ofNat 8 v] := rfl

/-- The reply of EXAMINE, item by item. -/
theorem examineBytes_eq (s : State) (a : FieldAddress) :
    examineBytes s a =
      leBytes 1 a.table ++ leBytes 1 a.record ++ leBytes 1 a.field ++
        leBytes (fieldBytes a) ((readField s a).getD 0) ++
        (if a.table = 2 ∧ a.field = 2 then
          ([match (pyroInput s (if a.record = 0 then .a else .b)).lastSample with
            | none => 0
            | some v => if v.valid = true then 1 else 2] : List Byte)
         else []) ++
        ([if writtenMark s a = true then 1 else 0,
         if readOnlyField a = true then 1
         else if a.table ≠ 3 then 0
         else if recipeLive a.field = true then 3 else 2] : List Byte) ++
        (if a.table = 3 then
          leBytes 1 (recipeValidity s a.record) ++ ([if recipeInUse s a.record = true then 0 else 1] : List Byte)
         else []) := by
  have hsample : sampleBytes s a =
      if a.table = 2 ∧ a.field = 2 then
        [match (pyroInput s (if a.record = 0 then .a else .b)).lastSample with
         | none => 0
         | some v => if v.valid = true then 1 else 2]
      else [] := by
    unfold sampleBytes recordPyro
    split
    · cases (pyroInput s (if a.record = 0 then .a else .b)).lastSample with
      | none => rfl
      | some v => cases hv : v.valid <;> simp [sampleValidity, hv, leBytes]
    · rfl
  have hmark : leBytes 1 (flagCode (writtenMark s a)) = [if writtenMark s a = true then 1 else 0] := by
    cases writtenMark s a <;> rfl
  have hkind : leBytes 1 (fieldKind a) =
      [if readOnlyField a = true then 1
       else if a.table ≠ 3 then 0
       else if recipeLive a.field = true then 3 else 2] := by
    unfold fieldKind
    by_cases hr : readOnlyField a = true
    · simp [hr, leBytes]
    · by_cases ht : a.table = 3
      · by_cases hl : recipeLive a.field = true <;> simp [hr, ht, hl, leBytes]
      · simp [hr, ht, leBytes]
  have hrecipe : validityBytes s a ++ inUseBytes s a =
      if a.table = 3 then
        leBytes 1 (recipeValidity s a.record) ++ ([if recipeInUse s a.record = true then 0 else 1] : List Byte)
      else [] := by
    unfold validityBytes inUseBytes
    by_cases ht : a.table = 3
    · rw [if_pos ht, if_pos ht, if_pos ht]
      cases recipeInUse s a.record <;> rfl
    · rw [if_neg ht, if_neg ht, if_neg ht]
      rfl
  unfold examineBytes FieldAddress.bytes
  rw [hsample, hmark, hkind, List.append_assoc _ (validityBytes s a), hrecipe]
  simp only [List.append_assoc, List.cons_append, List.nil_append]

/-- Settles O16: the two branches of `pstExamine`. -/
theorem examineReadsField : Obligations.ExamineReadsField := by
  intro st x s hr
  have hans : ∀ {u ans}, pstExamine st x s = (u, ans) → Answers (.examine st (.items x)) st s u ans := fun h =>
    answers_of_owner rfl (by cases st <;> decide) hr h
  refine ⟨fun h => hans ?_, fun a h => hans ?_⟩
  · unfold pstExamine pointer
    rw [h]
    rfl
  · unfold pstExamine pointer
    rw [h]
    exact congrArg (fun bytes => (setPointer st a s, ({ status := .ok, payload := bytes } : Answer)))
      (examineBytes_eq s a)

/-! ### DEPOSIT refused (R129) -/

theorem presentBytes_eq (s : State) (a : FieldAddress) :
    presentBytes s a =
      match readField s a with
      | none => List.replicate (fieldBytes a) 0xFF
      | some v =>
        if a.table = 2 ∧ a.field = 2 ∧
            (pyroInput s (if a.record = 0 then .a else .b)).lastSample.any (fun x => !x.valid) = true then
          List.replicate (fieldBytes a) 0xFF
        else leBytes (fieldBytes a) v := by
  have hvoid : (a.table == 2 && a.field == 2 &&
      (pyroInput s (recordPyro a.record)).lastSample.any fun x => !x.valid) = true ↔
      a.table = 2 ∧ a.field = 2 ∧
        (pyroInput s (if a.record = 0 then .a else .b)).lastSample.any (fun x => !x.valid) = true := by
    unfold recordPyro
    simp only [Bool.and_eq_true, beq_iff_eq, and_assoc]
  unfold presentBytes
  dsimp only
  by_cases hv : a.table = 2 ∧ a.field = 2 ∧
      (pyroInput s (if a.record = 0 then .a else .b)).lastSample.any (fun x => !x.valid) = true
  · rw [if_pos (hvoid.2 hv)]
    cases readField s a with
    | none => rfl
    | some v => exact (if_pos hv).symm
  · rw [if_neg (mt hvoid.1 hv)]
    cases readField s a with
    | none => rfl
    | some v => exact (if_neg hv).symm

theorem depositRefused {x : DepositArgs} {s : State} {a : FieldAddress} {status : Status}
    (ha : resolve s.links.supervisor.pointer x.address = some a)
    (h : depositRefusal s a (fitField s a x.value) = some status) :
    Answers (.deposit .supervisor (.items x)) .supervisor s s
      { status := status
        payload :=
          leBytes 1 a.table ++ leBytes 1 a.record ++ leBytes 1 a.field ++ presentBytes s a } := by
  refine answers_of_owner rfl (by decide) (.of_ne (by decide)) ?_
  have hp : pointer s .supervisor = s.links.supervisor.pointer := rfl
  unfold pstDeposit
  rw [hp, ha]
  dsimp only
  rw [h]
  rfl

/-- Settles O18: the order of `depositRefusal`. -/
theorem depositRefusedInOrder : Obligations.DepositRefusedInOrder := by
  intro x s
  refine ⟨fun h => answers_of_owner rfl (by decide) (.of_ne (by decide)) ?_, fun a ha => ?_⟩
  · have hp : pointer s .supervisor = s.links.supervisor.pointer := rfl
    unfold pstDeposit
    rw [hp, h]
    rfl
  · intro refused
    have key : ∀ {status}, depositRefusal s a (fitField s a x.value) = some status → refused status := fun h => by
      have hd := depositRefused ha h
      rwa [presentBytes_eq] at hd
    refine ⟨fun hro => key (if_pos hro), fun hro ht hu => ⟨fun hl => key ?_, fun hl v k hv h1 h6 hk => key ?_⟩,
      fun ht hf he => key ?_⟩
    · unfold depositRefusal
      rw [if_neg (by simp [hro]), if_pos (by simp [ht, hl, hu])]
    · have hfit : v = fitField s a x.value := by
        rw [(storedFor_recipe ht).1 hv, fitField, ht]
        rfl
      have hrel : relationsHold (setRecipeField (recipeFields s a.record) a.field (fitField s a x.value)) = false := by
        rw [← hfit, ← Bool.not_eq_true, relationsHold_iff]
        exact fun h => hk (h k h1 h6)
      unfold depositRefusal
      rw [if_neg (by simp [hro]), if_neg (by simp [hl]), if_neg (by simp [ht]), if_pos (by simp [ht, hu, hrel])]
    · have hro : readOnlyField a = false := by simp [readOnlyField, ht, hf]
      have hempty : trackEmpty s = false := by
        rw [← Bool.not_eq_true, trackEmpty_iff]
        exact he
      unfold depositRefusal
      rw [if_neg (by simp [hro]), if_neg (by simp [ht]), if_pos (by simp [ht, hf, hempty])]

end Sys2Proof.Machine
end

section
/-! PROOFS. What a deposit stores, and what follows from it (R87, R94, R130). -/

namespace Sys2Proof.Machine

/-! ### The fields, table by table -/

/-- The addresses of the four tables (R123). -/
theorem named_cases {a : FieldAddress} (h : a.named = true) :
    (∃ f, f < 4 ∧ a = { table := 0, record := 0, field := f }) ∨
      (∃ (z : ZoneNo) (f : Nat), f < 8 ∧ a = { table := 1, record := z.number, field := f }) ∨
      (∃ r f, r ≤ 1 ∧ f < 3 ∧ a = { table := 2, record := r, field := f }) ∨
      ∃ r f, r ≤ 15 ∧ f < 25 ∧ a = { table := 3, record := r, field := f } := by
  rw [named_iff, lt_fieldCount_iff] at h
  obtain ⟨table, record, field⟩ := a
  obtain ⟨ht, hr, hf⟩ | ⟨ht, h1, h8, hf⟩ | ⟨ht, hr, hf⟩ | ⟨ht, hr, hf⟩ := h <;> dsimp only at *
  · exact .inl ⟨field, hf, by rw [ht, hr]⟩
  · have hz : ∃ z : ZoneNo, z.number = record := by
      interval_cases record
      exacts [⟨.z1, rfl⟩, ⟨.z2, rfl⟩, ⟨.z3, rfl⟩, ⟨.z4, rfl⟩, ⟨.z5, rfl⟩, ⟨.z6, rfl⟩, ⟨.z7, rfl⟩, ⟨.z8, rfl⟩]
    obtain ⟨z, rfl⟩ := hz
    exact .inr (.inl ⟨z, field, hf, by rw [ht]⟩)
  · exact .inr (.inr (.inl ⟨record, field, hr, hf, by rw [ht]⟩))
  · exact .inr (.inr (.inr ⟨record, field, hr, hf, by rw [ht]⟩))

/-- The fields that a deposit may store, table by table (R129, check 2). -/
theorem writable_cases {a : FieldAddress} (h : a.named = true) (hro : readOnlyField a = false) :
    (∃ f, f < 2 ∧ a = { table := 0, record := 0, field := f }) ∨
      (∃ (z : ZoneNo) (f : Nat), f < 3 ∧ a = { table := 1, record := z.number, field := f }) ∨
      (a = { table := 2, record := 0, field := 0 } ∨ a = { table := 2, record := 0, field := 1 } ∨
        a = { table := 2, record := 1, field := 1 }) ∨
      ∃ r f, 1 ≤ r ∧ r ≤ 15 ∧ f < 23 ∧ a = { table := 3, record := r, field := f } := by
  have hro' := mt (readOnlyField_iff h).2 (by simp [hro])
  obtain ⟨f, hf, rfl⟩ | ⟨z, f, hf, rfl⟩ | ⟨r, f, hr, hf, rfl⟩ | ⟨r, f, hr, hf, rfl⟩ := named_cases h <;>
    dsimp only at hro'
  · exact .inl ⟨f, by omega, rfl⟩
  · exact .inr (.inl ⟨z, f, by omega, rfl⟩)
  · refine .inr (.inr (.inl ?_))
    have hcases : r = 0 ∧ f = 0 ∨ r = 0 ∧ f = 1 ∨ r = 1 ∧ f = 1 := by omega
    obtain ⟨rfl, rfl⟩ | ⟨rfl, rfl⟩ | ⟨rfl, rfl⟩ := hcases <;> simp
  · exact .inr (.inr (.inr ⟨r, f, by omega, hr, by omega, rfl⟩))

/-- What is stored for a value is the value fitted (R130). -/
theorem storedFor_iff {s : State} {a : FieldAddress} {sent stored : Nat} (h : a.named = true)
    (hro : readOnlyField a = false) : StoredFor s a sent stored ↔ stored = fitField s a sent := by
  obtain ⟨f, hf, rfl⟩ | ⟨z, f, hf, rfl⟩ | (rfl | rfl | rfl) | ⟨r, f, h1, h15, hf, rfl⟩ := writable_cases h hro
  · obtain rfl | rfl : f = 0 ∨ f = 1 := by omega
    · exact storedFor_clamp (by simp [fieldRange]) (by simp)
    · simp only [StoredFor, fieldRange, fitField, clamp]
      simp
      omega
  · interval_cases f <;> exact storedFor_clamp (by simp [fieldRange]) (by simp)
  · exact storedFor_clamp (by simp [fieldRange]) (by simp)
  · exact storedFor_clamp (by simp [fieldRange]) (by simp)
  · exact storedFor_clamp (by simp [fieldRange]) (by simp)
  · exact storedFor_recipe rfl

/-! ### What a stored field changes -/

/-- A state in which a field holds a value, with what may follow from it. -/
structure Stored (a : FieldAddress) (v : Nat) (s u : State) : Prop where
  value : readField u a = some v
  mark : writtenMark u a = true
  marks : ∀ b, b.named = true → b ≠ a → writtenMark u b = writtenMark s b
  positionA : a.table = 1 → a.field = 0 →
    u.pst.positionA = if rowLength u ≤ s.pst.positionA then rowLength u - 1 else s.pst.positionA
  others : ∀ b, b.named = true → b ≠ a → ¬followsFrom a b → readField u b = readField s b

/-- A field of LINE or PYRO stored: no written mark changes, and no field of another table. -/
theorem Stored.of_pst {a : FieldAddress} {v : Nat} {s : State} {p : Params} (ht : a.table = 0 ∨ a.table = 2)
    (hrecipes : p.recipes = s.pst.recipes) (hvalue : readField (s.withPst p) a = some v)
    (hline : ∀ f < 4, ({ table := 0, record := 0, field := f } : FieldAddress) ≠ a →
      readField (s.withPst p) { table := 0, record := 0, field := f } =
        readField s { table := 0, record := 0, field := f })
    (hpyro : ∀ r ≤ 1, ∀ f < 3, ({ table := 2, record := r, field := f } : FieldAddress) ≠ a →
      readField (s.withPst p) { table := 2, record := r, field := f } =
        readField s { table := 2, record := r, field := f }) : Stored a v s (s.withPst p) where
  value := hvalue
  mark := by
    unfold writtenMark
    rw [if_neg (by omega), if_neg (by omega)]
  marks b _ _ := by
    rw [writtenMark_eq, writtenMark_eq]
    simp only [State.withPst_zones, State.withPst_pst, hrecipes]
  positionA h := by omega
  others b hb hne _ := by
    obtain ⟨f, hf, rfl⟩ | ⟨z, f, hf, rfl⟩ | ⟨r, f, hr, hf, rfl⟩ | ⟨r, f, hr, hf, rfl⟩ := named_cases hb
    · exact hline f hf hne
    · rfl
    · exact hpyro r hr f hf hne
    · have hfields : recipeFields (s.withPst p) r = recipeFields s r := by
        simp only [recipeFields, State.withPst_pst, hrecipes]
      have hval : recipeValidity (s.withPst p) r = recipeValidity s r := recipeValidity_congr (by exact hrecipes) r
      have huse : recipeInUse (s.withPst p) r = recipeInUse s r := rfl
      unfold readField
      simp only [hfields, hval, huse]

theorem stored_line {s : State} {f v : Nat} (hf : f < 2) :
    Stored { table := 0, record := 0, field := f } v s
      (storeField { table := 0, record := 0, field := f } v s) := by
  obtain rfl | rfl : f = 0 ∨ f = 1 := by omega
  · refine Stored.of_pst (.inl rfl) rfl rfl (fun f hf hne => ?_) fun r hr f hf _ => rfl
    interval_cases f
    exacts [absurd rfl hne, rfl, rfl, rfl]
  · refine Stored.of_pst (.inl rfl) rfl rfl (fun f hf hne => ?_) fun r hr f hf _ => rfl
    interval_cases f
    exacts [rfl, absurd rfl hne, rfl, rfl]

theorem stored_pyro {s : State} {a : FieldAddress} {v : Nat}
    (ha : a = { table := 2, record := 0, field := 0 } ∨ a = { table := 2, record := 0, field := 1 } ∨
      a = { table := 2, record := 1, field := 1 }) : Stored a v s (storeField a v s) := by
  obtain rfl | rfl | rfl := ha <;>
    refine Stored.of_pst (.inr rfl) rfl rfl (fun f hf hne => rfl) fun r hr f hf hne => ?_ <;>
    interval_cases r <;> interval_cases f
  exacts [absurd rfl hne, rfl, rfl, rfl, rfl, rfl, rfl, absurd rfl hne, rfl, rfl, rfl, rfl, rfl, rfl, rfl, rfl,
    absurd rfl hne, rfl]

/-! ### Zone fields (R87, R94) -/

theorem lowerPositionA_pst (s : State) :
    lowerPositionA s =
      s.withPst
        { s.pst with
          positionA := if rowLength s ≤ s.pst.positionA then rowLength s - 1 else s.pst.positionA } := by
  unfold lowerPositionA
  split
  · rfl
  · exact (State.withPst_self s).symm

/-- What a stored field leaves of a zone record (R87). -/
structure ZoneStored (z u : ZoneRecord) (f v : Nat) : Prop where
  length : u.length = if f = 0 then v else z.length
  rating : u.rating = if f = 1 then some v else z.rating
  enable : u.enable = if f = 2 then decide (v ≠ 0) else z.enable
  lastStatus : u.lastStatus = z.lastStatus
  lastMean : u.lastMean = z.lastMean
  lastGrant : u.lastGrant = z.lastGrant
  states : f = 0 → u.state = z.state ∧ u.missCount = z.missCount

theorem storeField_zoneStored (z : ZoneRecord) {f v : Nat} (hf : f < 3) : ZoneStored z (z.storeField f v) f v := by
  obtain rfl | rfl | rfl : f = 0 ∨ f = 1 ∨ f = 2 := by omega
  · exact ⟨rfl, rfl, rfl, rfl, rfl, rfl, fun _ => ⟨rfl, rfl⟩⟩
  · show ZoneStored z (z.storeRating v) 1 v
    unfold ZoneRecord.storeRating
    split <;> exact ⟨rfl, rfl, rfl, rfl, rfl, rfl, fun h => nomatch h⟩
  · show ZoneStored z (z.storeEnable (decide (v ≠ 0))) 2 v
    unfold ZoneRecord.storeEnable
    split
    · rename_i hv
      exact ⟨rfl, rfl, by rw [if_pos rfl, hv], rfl, rfl, rfl, fun h => nomatch h⟩
    · rename_i hv
      exact ⟨rfl, rfl, by rw [if_pos rfl, Bool.eq_false_iff.2 hv], rfl, rfl, rfl, fun h => nomatch h⟩

/-- The field stored holds the value, and the state and miss count alone follow from a rating or an enable. -/
theorem zoneField_storeField (z : ZoneRecord) {f v : Nat} (hf : f < 3) (hv : f = 2 → v ≤ 1) :
    zoneField (z.storeField f v) f = some v ∧
      ∀ g, g ≠ f → (f = 0 ∨ g ≠ 3 ∧ g ≠ 6) → zoneField (z.storeField f v) g = zoneField z g := by
  obtain ⟨hlength, hrating, henable, hstatus, hmean, hgrant, hstates⟩ := storeField_zoneStored z (v := v) hf
  generalize z.storeField f v = u at *
  constructor
  · obtain rfl | rfl | rfl : f = 0 ∨ f = 1 ∨ f = 2 := by omega
    · simp [zoneField, hlength]
    · simp [zoneField, hrating]
    · obtain rfl | rfl : v = 0 ∨ v = 1 := by have := hv rfl; omega
      · simp [zoneField, henable, flagCode]
      · simp [zoneField, henable, flagCode]
  · intro g hne hg
    unfold zoneField
    split
    · rw [hlength, if_neg (Ne.symm hne)]
    · rw [hrating, if_neg (Ne.symm hne)]
    · rw [henable, if_neg (Ne.symm hne)]
    · rw [(hstates (by omega)).1]
    · rw [hstatus]
    · rw [hmean]
    · rw [(hstates (by omega)).2]
    · rw [hgrant]

theorem number_injective {y z : ZoneNo} (h : y.number = z.number) : y = z := by
  rw [← recordZone_number y, h, recordZone_number]

/-- The zone records with one of them stored. -/
def zonesStored (z : ZoneNo) (f v : Nat) (s : State) : State :=
  s.withZones (s.zones.set z ((s.zones.get z).storeField f v))

theorem storeField_zone (s : State) (z : ZoneNo) (f v : Nat) :
    storeField { table := 1, record := z.number, field := f } v s =
      if f = 0 then lowerPositionA (zonesStored z f v s) else zonesStored z f v s := by
  unfold storeField zonesStored
  dsimp only
  rw [recordZone_number]
  rfl

/-- A zone record stored alone. -/
theorem zonesStored_stored {s : State} {z : ZoneNo} {f v : Nat} (hf : f < 3) (hv : f = 2 → v ≤ 1) :
    readField (zonesStored z f v s) { table := 1, record := z.number, field := f } = some v ∧
      (f = 1 → ((zonesStored z f v s).zones.get z).rating.isSome = true) ∧
      (f ≠ 0 → rowLength (zonesStored z f v s) = rowLength s) ∧
      (∀ y g, (y ≠ z ∨ g ≠ f ∧ (f = 0 ∨ g ≠ 3 ∧ g ≠ 6)) →
        zoneField ((zonesStored z f v s).zones.get y) g = zoneField (s.zones.get y) g) := by
  have hsame : (zonesStored z f v s).zones.get z = (s.zones.get z).storeField f v := PerZone.get_set_same ..
  have hother : ∀ y, y ≠ z → (zonesStored z f v s).zones.get y = s.zones.get y := fun y hy =>
    PerZone.get_set_ne _ _ hy
  have hstored := storeField_zoneStored (s.zones.get z) (v := v) hf
  obtain ⟨hvalue, hkept⟩ := zoneField_storeField (s.zones.get z) hf hv
  refine ⟨by rw [readField_zone, hsame]; exact hvalue, fun h1 => ?_, fun h0 => ?_, fun y g h => ?_⟩
  · rw [hsame, hstored.rating, if_pos h1]
    rfl
  · exact (LengthsKept.set (t := zonesStored z f v s) z _ rfl (by rw [hstored.length, if_neg h0])).rowLength
  · by_cases hy : y = z
    · subst hy
      obtain hne | ⟨hg, hcase⟩ := h
      · exact absurd rfl hne
      · rw [hsame]
        exact hkept g hg hcase
    · rw [hother y hy]

/-- X_A is lowered after a zone length alone (R94). -/
theorem storeField_zone_eq (s : State) (z : ZoneNo) (f v : Nat) :
    ∃ x, storeField { table := 1, record := z.number, field := f } v s =
        (zonesStored z f v s).withPst { s.pst with positionA := x } ∧
      (f ≠ 0 → x = s.pst.positionA) ∧
      (f = 0 → x = if rowLength (zonesStored z f v s) ≤ s.pst.positionA then
        rowLength (zonesStored z f v s) - 1 else s.pst.positionA) := by
  rw [storeField_zone]
  by_cases h0 : f = 0
  · rw [if_pos h0, lowerPositionA_pst]
    exact ⟨_, rfl, fun h => absurd h0 h, fun _ => rfl⟩
  · rw [if_neg h0]
    exact ⟨s.pst.positionA, (State.withPst_self _).symm, fun _ => rfl, fun h => absurd h h0⟩

theorem stored_zone {s : State} {z : ZoneNo} {f v : Nat} (hf : f < 3) (hv : f = 2 → v ≤ 1) :
    Stored { table := 1, record := z.number, field := f } v s
      (storeField { table := 1, record := z.number, field := f } v s) := by
  obtain ⟨x, he, hx, hx0⟩ := storeField_zone_eq s z f v
  obtain ⟨hvalue, hrating, hrow, hfields⟩ := zonesStored_stored (s := s) (z := z) hf hv
  have hmarks : ∀ y, y ≠ z ∨ f ≠ 1 →
      ((zonesStored z f v s).zones.get y).rating = (s.zones.get y).rating := fun y hy =>
    hfields y 1 (hy.imp id fun h => ⟨Ne.symm h, .inr (by omega)⟩)
  rw [he]
  refine ⟨hvalue, ?_, fun b hb hne => ?_, fun _ h0 => hx0 h0, fun b hb hne hfollows => ?_⟩
  · by_cases h1 : f = 1
    · rw [writtenMark_eq, if_pos ⟨rfl, h1⟩, recordZone_number]
      exact hrating h1
    · rw [writtenMark_eq, if_neg (by simp [h1]), if_neg (by simp)]
  · rw [writtenMark_eq, writtenMark_eq]
    split
    · rename_i hb1
      obtain ⟨g, hg, rfl⟩ | ⟨y, g, hg, rfl⟩ | ⟨r, g, hr, hg, rfl⟩ | ⟨r, g, hr, hg, rfl⟩ := named_cases hb <;>
        dsimp only at hb1
      · omega
      · rw [recordZone_number]
        refine congrArg Option.isSome (hmarks y ?_)
        by_contra hno
        obtain ⟨hy, hf1⟩ : y = z ∧ f = 1 := by simpa [not_or] using hno
        exact hne (by rw [hy, hf1, hb1.2])
      · omega
      · omega
    · rfl
  · obtain ⟨g, hg, rfl⟩ | ⟨y, g, hg, rfl⟩ | ⟨r, g, hr, hg, rfl⟩ | ⟨r, g, hr, hg, rfl⟩ := named_cases hb
    · interval_cases g
      · rfl
      · rfl
      · refine congrArg some (hrow fun h0 => hfollows ?_)
        exact .inl ⟨rfl, h0, .inl rfl⟩
      · rfl
    · rw [readField_zone, readField_zone]
      refine hfields y g ?_
      by_contra hno
      push Not at hno
      obtain ⟨rfl, hno⟩ := hno
      have hgf : g ≠ f := fun h => hne (by rw [h])
      obtain ⟨hf0, hg36⟩ := hno hgf
      refine hfollows (.inr (.inl ⟨rfl, ?_, rfl, rfl, ?_⟩))
      · show f = 1 ∨ f = 2
        omega
      · show g = 3 ∨ g = 6
        omega
    · by_cases hg0 : g = 0
      · have hf0 : f ≠ 0 := fun h0 => hfollows (.inl ⟨rfl, h0, .inr ⟨rfl, hg0⟩⟩)
        subst hg0
        show some (if r = 0 then x else rowLength (zonesStored z f v s)) =
          some (if r = 0 then s.pst.positionA else rowLength s)
        rw [hx hf0, hrow hf0]
      · obtain rfl | rfl : g = 1 ∨ g = 2 := by omega
        · exact congrArg some (by unfold trust recordPyro; split <;> rfl)
        · rfl
    · rfl

/-! ### Recipe fields (R124, R125) -/

theorem stored_recipe {s : State} {r f v : Nat} (h1 : 1 ≤ r) (h15 : r ≤ 15) (hf : f < 23)
    (hl : s.pst.recipes.length = 15) :
    Stored { table := 3, record := r, field := f } v s
      (storeField { table := 3, record := r, field := f } v s) := by
  have he : storeField { table := 3, record := r, field := f } v s =
      storeRecipe r
        { fields := setRecipeField (s.pst.recipes.getD (r - 1) .reset).fields f v
          written := (s.pst.recipes.getD (r - 1) .reset).written ||| (1#23 <<< f) } s := rfl
  obtain ⟨hfields, -, hwritten⟩ := storeRecipe_same h1 h15 hl
    { fields := setRecipeField (s.pst.recipes.getD (r - 1) .reset).fields f v
      written := (s.pst.recipes.getD (r - 1) .reset).written ||| (1#23 <<< f) }
  have hother := fun m (hm : m ≠ r) => storeRecipe_other h1 h15 hl
    { fields := setRecipeField (s.pst.recipes.getD (r - 1) .reset).fields f v
      written := (s.pst.recipes.getD (r - 1) .reset).written ||| (1#23 <<< f) } hm
  rw [he]
  generalize hu : storeRecipe r _ s = u at *
  have hread : ∀ (t : State) (m g : Nat), g < 23 →
      readField t { table := 3, record := m, field := g } = some (recipeField (recipeFields t m) g) := fun t m g hg => by
    interval_cases g <;> rfl
  have hold : recipeFields s r = (s.pst.recipes.getD (r - 1) .reset).fields := if_neg (by omega)
  refine ⟨?_, ?_, fun b hb hne => ?_, (fun h => nomatch h), fun b hb hne hfollows => ?_⟩
  · rw [hread _ _ _ hf, hfields, recipeField_setRecipeField _ _ _ hf, if_pos rfl]
  · unfold writtenMark
    rw [if_neg (by simp), if_pos ⟨rfl, hf⟩]
    dsimp only
    rw [hwritten, getLsbD_or_one_shiftLeft _ hf]
    simp
  · unfold writtenMark
    rw [show u.zones = s.zones from hu ▸ rfl]
    split
    · rfl
    · split
      · rename_i hb3
        by_cases hr : b.record = r
        · have hbf : b.field ≠ f := fun h => hne (by
            obtain ⟨bt, br, bf⟩ := b
            dsimp only at hr h hb3
            rw [hr, h, hb3.1])
          have hw : recipeWritten s r b.field =
              (s.pst.recipes.getD (r - 1) .reset).written.getLsbD b.field := if_neg (by omega)
          rw [hr, hwritten, getLsbD_or_one_shiftLeft _ hb3.2, hw]
          simp [hbf]
        · exact (hother _ hr).2.2 _
      · rfl
  · obtain ⟨g, hg, rfl⟩ | ⟨y, g, hg, rfl⟩ | ⟨m, g, hm, hg, rfl⟩ | ⟨m, g, hm, hg, rfl⟩ := named_cases hb
    · subst hu
      interval_cases g <;> rfl
    · subst hu
      rfl
    · subst hu
      interval_cases g <;> rfl
    · by_cases h24 : g = 24
      · subst hu h24
        rfl
      · by_cases hmr : m = r
        · subst hmr
          have hgf : g ≠ f := fun h => hne (by rw [h])
          have hg23 : g ≠ 23 := fun h => hfollows (.inr (.inr ⟨rfl, rfl, rfl, h⟩))
          rw [hread _ _ _ (by omega), hread _ _ _ (by omega), hfields,
            recipeField_setRecipeField _ _ _ (by omega), if_neg (Ne.symm hgf), hold]
        · obtain ⟨hf', hv', -⟩ := hother m hmr
          by_cases h23 : g = 23
          · subst h23
            exact congrArg some hv'
          · rw [hread _ _ _ (by omega), hread _ _ _ (by omega), hf']

/-! ### DEPOSIT accepted (R129 to R131) -/

theorem storeField_stored {s : State} {a : FieldAddress} {sent v : Nat} (ha : a.named = true)
    (hro : readOnlyField a = false) (hl : s.pst.recipes.length = 15) (hv : v = fitField s a sent) :
    Stored a v s (storeField a v s) := by
  obtain ⟨f, hf, rfl⟩ | ⟨z, f, hf, rfl⟩ | hpyro | ⟨r, f, h1, h15, hf, rfl⟩ := writable_cases ha hro
  · exact stored_line hf
  · refine stored_zone hf fun h2 => ?_
    subst h2
    rw [hv]
    show clamp 0 1 sent ≤ 1
    unfold clamp
    omega
  · exact stored_pyro hpyro
  · exact stored_recipe h1 h15 hf hl

/-- A deposit that passes its checks, with the state that it leaves. -/
theorem depositAccepted {x : DepositArgs} {s : State} {a : FieldAddress}
    (ha : resolve s.links.supervisor.pointer x.address = some a)
    (h : depositRefusal s a (fitField s a x.value) = none) :
    Answers (.deposit .supervisor (.items x)) .supervisor s
      (setPointer .supervisor a (storeField a (fitField s a x.value) s))
      { status := if fitField s a x.value = x.value then .ok else .okClamped
        payload := a.bytes ++ leBytes (fieldBytes a) (fitField s a x.value) ++
          validityBytes (setPointer .supervisor a (storeField a (fitField s a x.value) s)) a } := by
  refine answers_of_owner rfl (by decide) (.of_ne (by decide)) ?_
  have hp : pointer s .supervisor = s.links.supervisor.pointer := rfl
  unfold pstDeposit
  rw [hp, ha]
  dsimp only
  rw [h]

/-- Settles O17: the field stored, and what follows from it by its table. -/
theorem depositStoresField : Obligations.DepositStoresField := by
  intro x a v s hl hres ha hro hv hempty huse
  have hfit := (storedFor_iff ha hro).1 hv
  have hok : depositRefusal s a (fitField s a x.value) = none := by
    rw [← hfit]
    unfold depositRefusal
    rw [if_neg (by simp [hro]), if_neg, if_neg, if_neg]
    · rintro ⟨ht, hu, hrel⟩
      have hall := (relationsHold_iff _).2 (huse ht hu).2
      simp [hall] at hrel
    · rintro ⟨ht, hf, he⟩
      have he' := (trackEmpty_iff s).2 (hempty ht hf)
      simp [he'] at he
    · rintro ⟨ht, hlive, hu⟩
      have hlive' := (huse ht hu).1
      simp [hlive'] at hlive
  have hstored := storeField_stored ha hro hl hfit
  obtain ⟨t, ht, hblocks, hans, hpointer, hlinks⟩ := depositAccepted hres hok
  rw [← hfit] at hblocks hans hpointer hlinks
  have hu : t = (storeField a v s).withLinks t.links := by
    rw [← State.withLinks_self (s := t)]
    exact (congrArg (State.withLinks · t.links) hblocks :)
  obtain ⟨zones, pst, hframe⟩ := storeField_eq a v s
  have hval : recipeValidity t a.record = recipeValidity (storeField a v s) a.record := by rw [hu]; rfl
  have hmoved : (setPointer .supervisor a (storeField a v s)).links.supervisor.pointer = a := rfl
  refine ⟨t, _, ht, hans, rfl, ?_, ?_, ?_, hpointer.trans hmoved, ?_, ?_, ?_, ?_, ?_⟩
  · show _ = _ ++ (if a.table = 3 then leBytes 1 (recipeValidity t a.record) else [])
    rw [hval]
    rfl
  · rw [hu]
    exact hstored.value
  · rw [hu]
    exact hstored.mark
  · rw [hu]
    exact hstored.marks
  · rw [hu]
    exact hstored.positionA
  · exact fun other ho => (hlinks other ho).trans (by
      rw [setPointer, setLink_links, PerStation.get_set_ne _ _ ho, hframe]
      rfl)
  · rw [hu]
    exact hstored.others
  · rw [hu, hframe]
    rfl

/-! ### Zone states after a deposit (R87) -/

/-- A deposit into an enable or a rating, sent by its address, stores it in the zone record alone. -/
theorem zoneDeposited (z : ZoneNo) {f : Nat} (hf : f = 1 ∨ f = 2) (v : Nat) (s : State) :
    ∃ t, exec
        (.deposit .supervisor
          (.items { address := { form := 0, table := 1, record := z.number, field := f }, value := v })) s = .next t ∧
      t.zones.get z =
        (s.zones.get z).storeField f (fitField s { table := 1, record := z.number, field := f } v) ∧
      ∀ y, y ≠ z → t.zones.get y = s.zones.get y := by
  have hres : ∀ p, resolve p { form := 0, table := 1, record := z.number, field := f } =
      some { table := 1, record := z.number, field := f } := fun p => by
    have hn : FieldAddress.named { table := 1, record := z.number, field := f } = true := by
      obtain rfl | rfl := hf <;> cases z <;> rfl
    exact if_pos hn
  have hok : depositRefusal s { table := 1, record := z.number, field := f }
      (fitField s { table := 1, record := z.number, field := f } v) = none := by
    obtain rfl | rfl := hf <;> simp [depositRefusal, readOnlyField]
  obtain ⟨t, ht, hblocks, -⟩ := depositAccepted
    (x := { address := { form := 0, table := 1, record := z.number, field := f }, value := v }) (hres _) hok
  have hzones : t.zones = s.zones.set z
      ((s.zones.get z).storeField f (fitField s { table := 1, record := z.number, field := f } v)) := by
    have h := congrArg State.zones hblocks
    rw [State.withLinks_zones] at h
    rw [h]
    show (storeField _ _ s).zones = _
    rw [storeField_zone, if_neg (by omega)]
    rfl
  refine ⟨t, ht, ?_, fun y hy => ?_⟩
  · rw [hzones, PerZone.get_set_same]
  · rw [hzones, PerZone.get_set_ne _ _ hy]

theorem storeEnable_true (z : ZoneRecord) :
    z.storeEnable true =
      { z with
        enable := true, missCount := 0
        state := if z.state = .disabled ∧ z.rating = none then .disabled else .active } := by
  obtain ⟨length, rating, enable, state⟩ := z
  cases state <;> cases rating <;> rfl

/-- Settles O19: the zone records that `storeEnable` and `storeRating` leave. -/
theorem zoneStateFollowsDeposit : Obligations.ZoneStateFollowsDeposit := by
  intro z v s
  constructor
  · obtain ⟨t, ht, hz, hother⟩ := zoneDeposited z (.inr rfl) v s
    refine ⟨t, ht, fun h0 => ?_, fun h0 => ?_, hother⟩ <;> rw [hz]
    · subst h0
      rfl
    · have hfit : fitField s { table := 1, record := z.number, field := 2 } v = 1 := by
        show clamp 0 1 v = 1
        unfold clamp
        omega
      rw [hfit]
      exact storeEnable_true _
  · obtain ⟨t, ht, hz, hother⟩ := zoneDeposited z (.inl rfl) v s
    refine ⟨t, clamp 10000 800000 v, ht, ?_, ?_, hother⟩
    · exact (storedFor_clamp (by simp [fieldRange]) (by simp)).2 rfl
    · rw [hz]
      show if _ then (s.zones.get z).storeRating (clamp 10000 800000 v) = _
        else (s.zones.get z).storeRating (clamp 10000 800000 v) = _
      unfold ZoneRecord.storeRating
      split <;> rfl

end Sys2Proof.Machine
end

section
/-! PROOFS. MAP, BILLET and CLASSIFY (R28 to R30). -/

namespace Sys2Proof.Machine

/-! ### The order of MAP (R28) -/

/-- A record with its place, the gate record it is or none. -/
def placed (q : Billet × Option GateBillet) : Placed := { billet := q.1, gate := q.2 }

theorem mapOrder_eq (s : State) :
    mapOrder s =
      List.map placed ((s.trk.gate.map fun g => (g.billet, some g)) ++ s.trk.row.map fun b => (b, none)) := by
  rw [List.map_append, List.map_map, List.map_map]
  rfl

theorem mapOrder_length (s : State) : (mapOrder s).length = s.trk.gate.length + s.trk.row.length := by
  simp [mapOrder]

theorem mapOrder_billets (s : State) : (mapOrder s).map (·.billet) = billets s := by
  rw [mapOrder, List.map_append, List.map_map, List.map_map, billets]
  exact congrArg (s.trk.gate.map _ ++ ·) (List.map_id _)

theorem mem_billets_of_mapOrder {s : State} {p : Placed} (h : p ∈ mapOrder s) : p.billet ∈ billets s :=
  mapOrder_billets s ▸ List.mem_map_of_mem h

/-! ### MAP (R28) -/

theorem estimateState_code (e : EstimateState) : e.code = if e = .untracked then 1 else 0 := by
  cases e <;> rfl

theorem measurementBytes_eq (measurement : Option Measurement) :
    measurementBytes measurement =
      match measurement with
      | none => ([0xFF, 0xFF, 0xFF] : List Byte)
      | some m =>
        leBytes 1 (match m.source with
          | .a => 0
          | .b => 1) ++
          match m.value with
          | none => ([0xFF, 0xFF] : List Byte)
          | some v => leBytes 2 v := by
  obtain _ | ⟨_ | _, _ | v⟩ := measurement <;> rfl

/-- The state of the record in a summary: the estimate, the marks and the place (R151). -/
theorem summaryState (b : Billet) (gate : Option GateBillet) :
    b.estimate.code + 2 * b.marks.bits + 16 * flagCode gate.isSome =
      (if b.estimate = .untracked then 1 else 0) + (if b.marks.overheated = true then 2 else 0) +
        (if b.marks.overdwell = true then 4 else 0) + (if b.marks.guarded = true then 8 else 0) +
        (if gate = none then 0 else 16) := by
  have hplace : 16 * flagCode gate.isSome = if gate = none then 0 else 16 := by
    cases gate <;> simp [flagCode]
  have hmarks : 2 * b.marks.bits = (if b.marks.overheated = true then 2 else 0) +
      (if b.marks.overdwell = true then 4 else 0) + (if b.marks.guarded = true then 8 else 0) := by
    unfold Marks.bits
    split_ifs <;> rfl
  rw [estimateState_code, hplace, hmarks]
  simp only [Nat.add_assoc]

theorem summaryVerdict (gate : Option GateBillet) :
    ((gate.map (·.verdict)).map fun v => v.code + 1).getD 0 =
      match gate with
      | none => 0
      | some g =>
        match g.verdict with
        | .pending => 1
        | .ready => 2
        | .under => 3
        | .over => 4
        | .suspect => 5
        | .spacer => 6
        | .overdwell => 7 := by
  obtain _ | ⟨c, v, f⟩ := gate
  · rfl
  · cases v <;> rfl

theorem trackState_code (x : TrackState) :
    x.code = match x with
      | .idle => 0
      | .pushing => 1
      | .uncertain => 2 := by
  cases x <;> rfl

/-- Settles O22: the branches of `trkMap`. -/
theorem mapAnswers : Obligations.MapAnswers := by
  intro st x s hr summary
  have hans : ∀ {ans}, trkMap x s = (s, ans) → Answers (.map st (.items x)) st s s ans := fun h =>
    answers_of_owner rfl (by cases st <;> decide) hr h
  have hsummary : ∀ p, summaryBytes s p = summary p.billet p.gate := fun p => by
    unfold summaryBytes Placed.verdict dwell
    dsimp only
    rw [summaryState, summaryVerdict] <;> rfl
  have hall : (mapOrder s).map (summaryBytes s) =
      (s.trk.gate.map fun g => summary g.billet (some g)) ++ s.trk.row.map fun b => summary b none := by
    simp only [mapOrder, List.map_append, List.map_map, Function.comp_def, hsummary]
  refine ⟨fun h => hans ?_, fun h1 h3 => hans ?_⟩
  · unfold trkMap
    rw [if_pos h]
    rfl
  · unfold trkMap
    rw [if_neg (by omega)]
    dsimp only
    rw [List.map_take, List.map_drop, hall, mapOrder_length, trackState_code] <;> rfl

/-! ### BILLET (R29) -/

theorem findTag_none {s : State} {tag : Nat} (h : ∀ b ∈ billets s, b.tag ≠ tag) : findTag s tag = none := by
  have hnone : ((mapOrder s).findIdx? fun p => p.billet.tag == tag) = none :=
    List.findIdx?_eq_none_iff.2 fun p hp => by simpa using h _ (mem_billets_of_mapOrder hp)
  unfold findTag
  dsimp only
  rw [hnone]
  rfl

/-- The record with a tag is found at its own place in the order of MAP (R28, R29). -/
theorem findTag_some {s : State} {i : Nat} {p : Placed} (hs : TagsDistinct s) (h : (mapOrder s)[i]? = some p) :
    findTag s p.billet.tag = some (i, p) := by
  obtain ⟨hi, hp⟩ := List.getElem?_eq_some_iff.1 h
  have hn : ((mapOrder s).map (·.billet.tag)).Nodup := by
    have hn := (List.nodup_append.1 hs.1).1
    rwa [← mapOrder_billets, List.map_map] at hn
  have hfind : ((mapOrder s).findIdx? fun q => q.billet.tag == p.billet.tag) = some i := by
    refine List.findIdx?_eq_some_iff_getElem.2 ⟨hi, by simp [hp], fun j hj => ?_⟩
    have hne := List.pairwise_iff_getElem.1 hn j i (by simpa using hj.trans hi) (by simpa using hi) hj
    simpa [hp] using hne
  unfold findTag
  dsimp only
  rw [hfind, Option.bind_some, h, Option.map_some]

theorem trkBillet_record {s : State} {i : Nat} {p : Placed} (hs : TagsDistinct s) (h : (mapOrder s)[i]? = some p)
    (h0 : p.billet.tag ≠ 0) :
    trkBillet p.billet.tag s = (s, { status := .ok, payload := billetBytes s i p }) := by
  unfold trkBillet
  rw [if_neg h0, findTag_some hs h]

theorem trkBillet_push {s : State} {p : PendingPush} (hs : TagsDistinct s) (h : s.trk.push = some p)
    (h0 : p.tag ≠ 0) : trkBillet p.tag s = (s, { status := .ok, payload := pendingBytes s p }) := by
  have hself : (some p).filter (fun q => q.tag == p.tag) = some p := by simp [Option.filter]
  unfold trkBillet
  rw [if_neg h0, findTag_none fun b hb => tag_ne_push hs hb h, h, hself]

theorem trkBillet_none {s : State} {tag : Nat} (h0 : tag ≠ 0) (h : tag ∉ trackTags s) :
    trkBillet tag s = (s, .bare .noBillet) := by
  have hbillets : ∀ b ∈ billets s, b.tag ≠ tag := fun b hb he =>
    h (List.mem_append_left _ (List.mem_map.2 ⟨b, hb, he⟩))
  have hpush : s.trk.push.filter (fun p => p.tag == tag) = none := by
    rw [Option.filter_eq_none_iff]
    intro p hp he
    exact h (List.mem_append_right _ (by simpa [hp] using (beq_iff_eq.1 he).symm))
  unfold trkBillet
  rw [if_neg h0, findTag_none hbillets, hpush]

/-- The reply for a record with its items written out (R29, log 17). -/
theorem billetBytes_eq (s : State) (i : Nat) (b : Billet) (gate : Option GateBillet) :
    billetBytes s i { billet := b, gate := gate } =
      leBytes 2 s.trk.generation ++ leBytes 1 (if gate = none then 0 else 1) ++ leBytes 1 i ++
        leBytes 2 b.tag ++ leBytes 1 b.recipe ++ leBytes 1 b.lot ++ leBytes 2 b.length ++
        leBytes 2 b.trailing ++ leBytes 2 b.entryTemp ++ leBytes 2 b.ts ++ leBytes 2 b.tc ++
        leBytes 1 (if b.estimate = .untracked then 1 else 0) ++
        leBytes 1
          ((if b.marks.overheated = true then 1 else 0) + (if b.marks.overdwell = true then 2 else 0) +
            (if b.marks.guarded = true then 4 else 0)) ++
        leBytes 4 b.entryTime ++ leBytes 4 b.energy ++ leBytes 2 (b.trailing + b.length) ++
        leBytes 4 (s.secs - b.entryTime) ++
        (match b.measurement with
         | none => ([0xFF, 0xFF, 0xFF] : List Byte)
         | some m =>
           leBytes 1 (match m.source with
             | .a => 0
             | .b => 1) ++
             match m.value with
             | none => ([0xFF, 0xFF] : List Byte)
             | some v => leBytes 2 v) ++
        match gate with
        | none => (List.replicate 7 0xFF : List Byte)
        | some g =>
          leBytes 1 (match g.verdict with
              | .pending => 0
              | .ready => 1
              | .under => 2
              | .over => 3
              | .suspect => 4
              | .spacer => 5
              | .overdwell => 6) ++
            match g.frontTime with
            | none => (List.replicate 6 0xFF : List Byte)
            | some ms => leBytes 6 ms := by
  have hverdict : optBytes 1 ((gate.map (·.verdict)).map (·.code)) ++ optBytes 6 (gate.bind (·.frontTime)) =
      match gate with
      | none => (List.replicate 7 0xFF : List Byte)
      | some g =>
        leBytes 1 (match g.verdict with
            | .pending => 0
            | .ready => 1
            | .under => 2
            | .over => 3
            | .suspect => 4
            | .spacer => 5
            | .overdwell => 6) ++
          match g.frontTime with
          | none => (List.replicate 6 0xFF : List Byte)
          | some ms => leBytes 6 ms := by
    obtain _ | ⟨c, v, f⟩ := gate
    · rfl
    · cases v <;> cases f <;> rfl
  have hplace : flagCode gate.isSome = if gate = none then 0 else 1 := by
    cases gate <;> simp [flagCode]
  unfold billetBytes recordBytes dwell Billet.leading Placed.verdict Marks.bits
  dsimp only
  rw [hplace, estimateState_code, measurementBytes_eq, List.append_assoc _ (optBytes 1 _), hverdict]
  simp only [List.append_assoc]

/-- Settles O23: the branches of `trkBillet`. -/
theorem billetAnswers : Obligations.BilletAnswers := by
  intro st tag s hr
  have hans : ∀ {ans}, trkBillet tag s = (s, ans) → Answers (.billet st (.items tag)) st s s ans := fun h =>
    answers_of_owner rfl (by cases st <;> decide) hr h
  refine ⟨fun h => hans (by rw [trkBillet, if_pos h]; rfl), fun h0 h => hans (trkBillet_none h0 h),
    fun p h0 hs hp htag => ?_, fun i b gate h0 hs hi htag => ?_⟩
  · subst htag
    refine hans ((trkBillet_push hs hp h0).trans ?_)
    unfold pendingBytes
    rw [trackState_code]
    rfl
  · subst htag
    have hi : (mapOrder s)[i]? = some { billet := b, gate := gate } := by
      rw [mapOrder_eq, List.getElem?_map, hi]
      rfl
    refine hans ((trkBillet_record hs hi h0).trans ?_)
    exact congrArg (fun bytes => (s, ({ status := .ok, payload := bytes } : Answer))) (billetBytes_eq s i b gate)

/-! ### CLASSIFY (R30) -/

/-- A bit that is set or clear alone. -/
theorem getLsbD_bit (c : Bool) (i k : Nat) (hk : k < 16) :
    (if c then 1#16 <<< i else 0).getLsbD k = (c && decide (k = i)) := by
  cases c
  · simp
  · rw [if_pos rfl, BitVec.getLsbD_shiftLeft, BitVec.getLsbD_one, Bool.eq_iff_iff]
    simp
    omega

/-- Bit k of the classes of a record is class k of R30's table. -/
theorem getLsbD_classes_iff (p : Placed) {k : Nat} (hk : k < 9) : p.classes.getLsbD k = true ↔ InClass p k := by
  obtain ⟨b, gate⟩ := p
  unfold Placed.classes Placed.verdict
  dsimp only
  simp only [BitVec.getLsbD_or, getLsbD_bit _ _ k (by omega)]
  have hmarks : b.marks = Marks.none ↔
      b.marks.overheated = false ∧ b.marks.overdwell = false ∧ b.marks.guarded = false := by
    obtain ⟨_, _, _⟩ := b.marks
    simp [Marks.none]
  interval_cases k <;> simp [InClass, hmarks]
  · exact and_assoc
  · cases gate with
    | none => simp
    | some g => cases hv : g.verdict <;> simp [hv]

theorem bitVec_and_ne_zero_iff {n : Nat} (x y : BitVec n) :
    x &&& y ≠ 0 ↔ ∃ k < n, x.getLsbD k = true ∧ y.getLsbD k = true := by
  constructor
  · intro h
    by_contra hn
    refine h (BitVec.eq_of_getLsbD_eq fun k hk => ?_)
    have := not_exists.1 hn k
    simp_all
  · rintro ⟨k, -, hx, hy⟩ h
    have hb := congrArg (·.getLsbD k) h
    simp [hx, hy] at hb

/-- A mask names one of the nine classes alone exactly when it is below 2 ^ 9. -/
theorem mask_lt_iff (mask : BitVec 16) : mask.toNat < 512 ↔ ∀ k, 9 ≤ k → mask.getLsbD k = false := by
  constructor
  · exact fun h k hk => Nat.testBit_eq_false_of_lt (h.trans_le (Nat.pow_le_pow_right (n := 2) (by omega) hk))
  · exact fun h => Nat.lt_pow_two_of_testBit (n := 9) _ fun k hk => h k hk

/-- Settles O24: the hits are the records that share a class with the mask, in the order of MAP. -/
theorem classifyAnswers : Obligations.ClassifyAnswers := by
  intro st mask s hr
  have hans : ∀ {ans}, trkClassify mask s = (s, ans) → Answers (.classify st (.items mask)) st s s ans := fun h =>
    answers_of_owner rfl (by cases st <;> decide) hr h
  refine ⟨fun h => hans ?_, fun h0 h9 => ?_⟩
  · unfold trkClassify
    rw [if_pos]
    · rfl
    · refine h.imp_right fun ⟨k, hk, hb⟩ => ?_
      by_contra hlt
      rw [(mask_lt_iff mask).1 (by omega) k hk] at hb
      exact absurd hb (by decide)
  · have hlt := (mask_lt_iff mask).2 h9
    refine ⟨(mapOrder s).filter fun p => decide (p.classes &&& mask ≠ 0), List.filter_sublist, fun p hp => ?_, ?_,
      hans ?_⟩
    · rw [List.mem_filter, decide_eq_true_iff, bitVec_and_ne_zero_iff]
      refine (and_iff_right hp).trans ⟨fun ⟨k, _, hc, hm⟩ => ?_, fun ⟨k, hm, hc⟩ => ?_⟩
      · have hk : k < 9 := by
          by_contra hk
          rw [h9 k (by omega)] at hm
          exact absurd hm (by decide)
        exact ⟨k, hm, (getLsbD_classes_iff p hk).1 hc⟩
      · have hk : k < 9 := by
          by_contra hk
          rw [h9 k (by omega)] at hm
          exact absurd hm (by decide)
        exact ⟨k, by omega, (getLsbD_classes_iff p hk).2 hc, hm⟩
    · rw [← List.countP_eq_length_filter]
      refine List.countP_congr fun p hp => ?_
      have hp : p ∈ mapOrder s := hp
      simp only [List.mem_filter, hp, true_and, decide_eq_true_iff]
    · unfold trkClassify
      rw [if_neg (by rintro (h | h); exacts [h0 h, by omega])]

end Sys2Proof.Machine
end

section
/-! PROOFS. PUSH REQUEST: the seven checks and the grant (R13, R14, R139). -/

namespace Sys2Proof.Machine

/-! ### Admission by LOT (R139) -/

theorem spacersAsked_le_iff (s : State) (l : Lot) :
    spacersAsked s l ≤ s.lot.spacers ↔
      ∀ r, s.lot.lastRecipe = some r → r ≠ l.recipe →
        (recipeFields s l.recipe).spacers ≤ s.lot.spacers ∧ (recipeFields s r).spacers ≤ s.lot.spacers := by
  unfold spacersAsked
  cases s.lot.lastRecipe with
  | none => simp
  | some r => by_cases h : r = l.recipe <;> simp [h]

theorem lotAdmits_of_empty {s : State} {recipe : Nat} (h0 : recipe ≠ 0) (h : s.lot.queue = []) :
    lotAdmits s recipe = .error .noLot := by
  unfold lotAdmits
  rw [if_neg h0, h]
  rfl

section
variable {s : State} {recipe : Nat} {l : Lot}

theorem lotAdmits_of_mismatch (h0 : recipe ≠ 0) (h : s.lot.queue.getLast? = some l) (hm : recipe ≠ l.recipe) :
    lotAdmits s recipe = .error .recipeMismatch := by
  unfold lotAdmits
  rw [if_neg h0, h]
  exact if_pos hm

theorem lotAdmits_of_done (h0 : recipe ≠ 0) (h : s.lot.queue.getLast? = some l) (hm : recipe = l.recipe)
    (hd : l.toLoad = 0 ∨ 65535 ≤ l.loaded) : lotAdmits s recipe = .error .lotDone := by
  unfold lotAdmits
  rw [if_neg h0, h]
  exact (if_neg (not_not.2 hm)).trans (if_pos hd)

theorem lotAdmits_of_spacers (h0 : recipe ≠ 0) (h : s.lot.queue.getLast? = some l) (hm : recipe = l.recipe)
    (hd : ¬(l.toLoad = 0 ∨ 65535 ≤ l.loaded)) (hs : s.lot.spacers < spacersAsked s l) :
    lotAdmits s recipe = .error .spacerNeeded := by
  unfold lotAdmits
  rw [if_neg h0, h]
  exact (if_neg (not_not.2 hm)).trans ((if_neg hd).trans (if_pos hs))

/-- An admitted push is admitted with the lot number that the rule gives it. -/
theorem lotAdmits_of_admitted {lot : Nat} (h : Admitted s recipe lot) : lotAdmits s recipe = .ok lot := by
  unfold Admitted at h
  unfold lotAdmits
  split at h
  · rename_i h0
    rw [if_pos h0, h]
  · rename_i h0
    obtain ⟨l, hl, rfl, hm, hload, hloaded, hspacers⟩ := h
    have hasked := (spacersAsked_le_iff s l).2 hspacers
    rw [if_neg h0, hl]
    exact (if_neg (not_not.2 hm.symm)).trans ((if_neg (by omega)).trans (if_neg (by omega)))

end

/-! ### The checks (R13) -/

/-- The checks of TRK before that of the lot pass (R13). -/
structure PushFits (x : PushArgs) (s : State) : Prop where
  idle : s.trk.state = .idle
  tag : x.tag ≠ 0
  free : x.tag ∉ trackTags s
  length : 60 ≤ x.length ∧ x.length ≤ 600
  recipe : x.recipe ≤ 15 ∧ recipeValidity s x.recipe = 0

section
variable {x : PushArgs} {s : State}

theorem pushChecks_pushing (h : s.trk.state = .pushing) : pushChecks s x = .error .busy := by
  unfold pushChecks
  rw [h]

theorem pushChecks_uncertain (h : s.trk.state = .uncertain) : pushChecks s x = .error .uncertain := by
  unfold pushChecks
  rw [h]

theorem pushChecks_tag_zero (h : s.trk.state = .idle) (h0 : x.tag = 0) : pushChecks s x = .error .range := by
  unfold pushChecks
  rw [h]
  exact if_pos h0

theorem pushChecks_tag_held (h : s.trk.state = .idle) (h0 : x.tag ≠ 0) (ht : x.tag ∈ trackTags s) :
    pushChecks s x = .error .tagDup := by
  unfold pushChecks
  rw [h]
  exact (if_neg h0).trans (if_pos ((tagHeld_iff s x.tag).2 ht))

theorem pushChecks_length (h : s.trk.state = .idle) (h0 : x.tag ≠ 0) (ht : x.tag ∉ trackTags s)
    (hl : ¬(60 ≤ x.length ∧ x.length ≤ 600)) : pushChecks s x = .error .range := by
  unfold pushChecks
  rw [h]
  exact (if_neg h0).trans ((if_neg (mt (tagHeld_iff s x.tag).1 ht)).trans (if_pos (by omega)))

theorem pushChecks_recipe (h : s.trk.state = .idle) (h0 : x.tag ≠ 0) (ht : x.tag ∉ trackTags s)
    (hl : 60 ≤ x.length ∧ x.length ≤ 600) (hr : 15 < x.recipe ∨ recipeValidity s x.recipe ≠ 0) :
    pushChecks s x = .error .recipeInvalid := by
  have hv : (!recipeValid s x.recipe) = true := by
    rw [Bool.not_eq_true', ← Bool.not_eq_true, recipeValid_iff]
    omega
  unfold pushChecks
  rw [h]
  exact (if_neg h0).trans ((if_neg (mt (tagHeld_iff s x.tag).1 ht)).trans ((if_neg (by omega)).trans (if_pos hv)))

theorem pushChecks_of_refused (hf : PushFits x s) {e : Status} (h : lotAdmits s x.recipe = .error e) :
    pushChecks s x = .error e := by
  unfold pushChecks
  rw [hf.idle]
  dsimp only
  rw [if_neg hf.tag, if_neg (mt (tagHeld_iff s x.tag).1 hf.free), if_neg (by have := hf.length; omega),
    (recipeValid_iff s x.recipe).2 hf.recipe, Bool.not_true, if_neg (by decide), h]

theorem pushChecks_of_admitted (hf : PushFits x s) {lot : Nat} (h : lotAdmits s x.recipe = .ok lot) :
    pushChecks s x =
      if 40 + movedBy s x.length < s.trk.row.length + 1 then .error .trackFull
      else if 2 < s.trk.gate.length + movedBy s x.length then .error .gateFull
      else .ok lot := by
  unfold pushChecks
  rw [hf.idle]
  dsimp only
  rw [if_neg hf.tag, if_neg (mt (tagHeld_iff s x.tag).1 hf.free), if_neg (by have := hf.length; omega),
    (recipeValid_iff s x.recipe).2 hf.recipe, Bool.not_true, if_neg (by decide), h]

/-! ### The answers of PUSH REQUEST -/

theorem answers_pushRequest_refused {e : Status} (h : pushChecks s x = .error e) :
    Answers (.pushRequest .loader (.items x)) .loader s s { status := e, payload := [] } := by
  refine answers_of_owner rfl (by decide) (.of_ne (by decide)) (?_ : trkPushRequest x s = _)
  unfold trkPushRequest
  rw [h]
  rfl

end

/-- Settles O26: each refusal is that of the first check that fails. -/
theorem pushRequestRefusedInOrder : Obligations.PushRequestRefusedInOrder := by
  intro x s refused
  have hans : ∀ {e}, pushChecks s x = .error e → refused e := fun h => answers_pushRequest_refused h
  refine ⟨fun h => hans (pushChecks_pushing h), fun h => hans (pushChecks_uncertain h), fun h =>
    ⟨fun h0 => hans (pushChecks_tag_zero h h0), fun h0 ht => hans (pushChecks_tag_held h h0 ht), fun h0 ht =>
    ⟨fun hl => hans (pushChecks_length h h0 ht hl), fun hl1 hl2 =>
    ⟨fun hr => hans (pushChecks_recipe h h0 ht ⟨hl1, hl2⟩ hr), fun hr hv => ?_⟩⟩⟩⟩
  have hf : PushFits x s := ⟨h, h0, ht, ⟨hl1, hl2⟩, ⟨hr, hv⟩⟩
  have hlot : ∀ {e}, lotAdmits s x.recipe = .error e → refused e := fun h => hans (pushChecks_of_refused hf h)
  refine ⟨fun hz hq => hlot (lotAdmits_of_empty hz hq), fun l hz hq =>
    ⟨fun hm => hlot (lotAdmits_of_mismatch hz hq hm), fun hm hd => hlot (lotAdmits_of_done hz hq hm hd),
      fun hm hload hloaded r hlast hne hspacers => hlot (lotAdmits_of_spacers hz hq hm (by omega) ?_)⟩,
    fun lot had => ⟨fun hrow => hans ?_, fun hrow hgate => hans ?_⟩⟩
  · by_contra hn
    obtain ⟨hl, hr⟩ := (spacersAsked_le_iff s l).1 (not_lt.1 hn) r hlast hne
    omega
  · rw [pushChecks_of_admitted hf (lotAdmits_of_admitted had), movedBy_eq_leaving, if_pos (by omega)]
  · have hle := staying_length s x.length
    rw [movedBy_eq_leaving] at hle
    rw [pushChecks_of_admitted hf (lotAdmits_of_admitted had), movedBy_eq_leaving, if_neg (by omega),
      if_pos hgate]

theorem grantedTemp_eq (temp : Option Nat) :
    grantedTemp temp =
      match temp with
      | none => 200
      | some v => if 6000 < v then 6000 else v := by
  unfold grantedTemp
  cases temp with
  | none => rfl
  | some v =>
    dsimp only
    split_ifs <;> omega

/-- Settles O25: every check passes, and the push is stored. -/
theorem pushRequestGranted : Obligations.PushRequestGranted := by
  intro x lot s h h0 ht hl1 hl2 hr hv had hrow hgate temp
  have hle := staying_length s x.length
  rw [movedBy_eq_leaving] at hle
  have hok : pushChecks s x = .ok lot := by
    rw [pushChecks_of_admitted ⟨h, h0, ht, ⟨hl1, hl2⟩, ⟨hr, hv⟩⟩ (lotAdmits_of_admitted had), movedBy_eq_leaving,
      if_neg (by omega), if_neg (by omega)]
  have htemp : grantedTemp x.entryTemp = temp := grantedTemp_eq x.entryTemp
  have hclamped : (x.entryTemp.any fun t => decide (6000 < t)) = true ↔ ∃ v, x.entryTemp = some v ∧ 6000 < v := by
    rw [Option.any_eq_true]
    simp
  refine answers_of_owner rfl (by decide) (.of_ne (by decide)) (?_ : trkPushRequest x s = _)
  unfold trkPushRequest grantedPush
  rw [hok]
  dsimp only
  rw [htemp, if_congr hclamped rfl rfl]

end Sys2Proof.Machine
end

section
/-! PROOFS. PUSH DONE, PUSH CANCEL and the push timer, RESYNC and PURGE (R16 to R25). -/

namespace Sys2Proof.Machine

/-! ### PUSH DONE and the push timer (R16, R18, R20) -/

theorem withinTolerance_iff (stroke len : Nat) :
    withinTolerance stroke len = true ↔ stroke ≤ len + 8 ∧ len ≤ stroke + 8 := by
  unfold withinTolerance
  rw [decide_eq_true_iff]

section
variable {s : State} {p : PendingPush}

theorem trkPushDone_applied {x : PushDoneArgs} (h : s.trk.state = .pushing) (hp : s.trk.push = some p)
    (ht : x.tag = p.tag) (hw : withinTolerance x.stroke p.length = true) :
    trkPushDone x s =
      (applyPush p .tracked s,
        { status := .ok
          payload := leBytes 1 (flagCode false) ++ leBytes 2 x.stroke ++ leBytes 2 p.length ++
            movedBytes (movedBy s p.length) (applyPush p .tracked s) }) := by
  unfold trkPushDone
  rw [h, hp]
  exact (if_neg (not_not.2 ht)).trans (if_pos hw)

theorem trkPushDone_slip {x : PushDoneArgs} (h : s.trk.state = .pushing) (hp : s.trk.push = some p)
    (ht : x.tag = p.tag) (hw : ¬withinTolerance x.stroke p.length = true) :
    trkPushDone x s =
      (enterUncertain s,
        { status := .ok
          payload := leBytes 1 (flagCode true) ++ leBytes 2 x.stroke ++ leBytes 2 p.length ++
            leBytes 2 s.trk.generation }) := by
  unfold trkPushDone
  rw [h, hp]
  exact (if_neg (not_not.2 ht)).trans (if_neg hw)

theorem trkPushDone_mismatch {x : PushDoneArgs} (h : s.trk.state = .pushing) (hp : s.trk.push = some p)
    (ht : x.tag ≠ p.tag) : trkPushDone x s = (s, .bare .tagMismatch) := by
  unfold trkPushDone
  rw [h, hp]
  exact if_pos ht

theorem trkPushDone_noPush {x : PushDoneArgs} (h : s.trk.state ≠ .pushing) :
    trkPushDone x s = (s, .bare .noPush) := by
  unfold trkPushDone
  split
  · contradiction
  · rfl

theorem trkPushCancel_dropped {tag : Nat} (h : s.trk.state = .pushing) (hp : s.trk.push = some p)
    (ht : tag = p.tag) : trkPushCancel tag s = (dropPush s, .bare .ok) := by
  unfold trkPushCancel
  rw [h, hp]
  exact if_neg (not_not.2 ht)

theorem trkPushCancel_mismatch {tag : Nat} (h : s.trk.state = .pushing) (hp : s.trk.push = some p)
    (ht : tag ≠ p.tag) : trkPushCancel tag s = (s, .bare .tagMismatch) := by
  unfold trkPushCancel
  rw [h, hp]
  exact if_pos ht

theorem trkPushCancel_noPush {tag : Nat} (h : s.trk.state ≠ .pushing) :
    trkPushCancel tag s = (s, .bare .noPush) := by
  unfold trkPushCancel
  split
  · contradiction
  · rfl

theorem answers_pushDone {x : PushDoneArgs} {u : State} {ans : Answer} (h : trkPushDone x s = (u, ans)) :
    Answers (.pushDone .loader (.items x)) .loader s u ans :=
  answers_of_owner rfl (by decide) (.of_ne (by decide)) h

theorem answers_pushCancel {tag : Nat} {u : State} {ans : Answer} (h : trkPushCancel tag s = (u, ans)) :
    Answers (.pushCancel .loader (.items tag)) .loader s u ans :=
  answers_of_owner rfl (by decide) (.of_ne (by decide)) h

end

/-- Settles O27: the branches of `trkPushDone` and of the push timer. -/
theorem pushDoneAndTimeout : Obligations.PushDoneAndTimeout := by
  refine ⟨fun x p s h hp ht h1 h2 => ?_, fun x p s h hp ht hslip => ?_, fun s expiry h htimer => ⟨fun hdue => ?_,
    fun hdue => ?_⟩⟩
  · obtain ⟨happlied, hrest⟩ := applyPush_spec p .tracked s
    refine ⟨_, happlied, hrest, answers_pushDone ?_⟩
    rw [trkPushDone_applied h hp ht ((withinTolerance_iff ..).2 ⟨h1, h2⟩), movedBy_eq_leaving]
    simp only [movedBytes, List.append_assoc]
    rfl
  · refine ⟨_, enterUncertain_spec s, answers_pushDone ?_⟩
    rw [trkPushDone_slip h hp ht (by rw [withinTolerance_iff]; omega)]
    rfl
  · have hexpires : pushTimerExpires s = enterUncertain s := by
      unfold pushTimerExpires
      rw [htimer, due_some, decide_eq_true hdue, Bool.not_true, if_neg (by decide), if_pos h]
    exact ⟨_, congrArg Host.Outcome.next hexpires, enterUncertain_spec s⟩
  · refine congrArg Host.Outcome.next (?_ : pushTimerExpires s = s)
    unfold pushTimerExpires
    rw [htimer, due_some, decide_eq_false (by omega), Bool.not_false, if_pos rfl]

/-- Settles O28: the branches of `trkPushCancel`, and those of `trkPushDone` that refuse. -/
theorem pushCancelDropsPush : Obligations.PushCancelDropsPush := by
  intro tag s
  refine ⟨fun p h hp ht => ?_, fun p h hp ht => ⟨answers_pushCancel (trkPushCancel_mismatch h hp ht.symm),
    fun stroke => answers_pushDone (trkPushDone_mismatch h hp ht.symm)⟩, fun h =>
    ⟨answers_pushCancel (trkPushCancel_noPush h), fun stroke => answers_pushDone (trkPushDone_noPush h)⟩⟩
  obtain ⟨htrk, hlot, hntc, hrest⟩ := dropPush_spec s
  exact ⟨_, htrk, hlot, hntc, hrest, answers_pushCancel (trkPushCancel_dropped h hp ht.symm)⟩

/-! ### RESYNC (R23) -/

theorem answers_resync {d : Nat} {s u : State} {ans : Answer} (h : trkResync d s = (u, ans)) :
    Answers (.resync .supervisor (.items d)) .supervisor s u ans :=
  answers_of_owner rfl (by decide) (.of_ne (by decide)) h

theorem trkResync_busy {d : Nat} {s : State} (h : s.trk.state ≠ .uncertain) :
    trkResync d s = (s, .bare .busy) := by
  unfold trkResync
  cases hs : s.trk.state with
  | uncertain => exact absurd hs h
  | idle => rfl
  | pushing => rfl

theorem resyncApplied_spec {s : State} {p : PendingPush} (hp : s.trk.push = some p) :
    PushApplied p .untracked s (resyncApplied s) ∧ (resyncApplied s).dsp = leftUncertain s ∧
      ((((resyncApplied s).withTrk s.trk).withEvu s.evu).withLot s.lot).withDsp s.dsp = s := by
  obtain ⟨happlied, hrest⟩ := applyPush_spec p .untracked s
  have he : resyncApplied s = (applyPush p .untracked s).withDsp (leftUncertain s) := by
    unfold resyncApplied
    rw [hp]
    dsimp only
    have hdsp : (applyPush p .untracked s).dsp = s.dsp := by simpa using congrArg State.dsp hrest
    have hpermit : (applyPush p .untracked s).permit = s.permit := by simpa using congrArg State.permit hrest
    rw [dispatcherUnblocks_spec]
    unfold leftUncertain
    rw [hdsp, hpermit]
  rw [he]
  exact ⟨happlied, rfl, congrArg (·.withDsp s.dsp) hrest⟩

theorem resyncNotApplied_spec (s : State) :
    (resyncNotApplied s).lot = testedLots (resyncNotApplied s).trk s.lot ∧
      Raises (kindIf (endedLots (resyncNotApplied s).trk s.lot.queue ≠ []) .lotClosed) s.ntc
        (resyncNotApplied s).ntc ∧
      (resyncNotApplied s).dsp = leftUncertain s ∧
      ((((resyncNotApplied s).withTrk s.trk).withLot s.lot).withNtc s.ntc).withDsp s.dsp = s := by
  obtain ⟨-, hlot, hntc, hrest⟩ :=
    dropPush_spec (s.withTrk { s.trk with generation := nextGeneration s.trk.generation })
  have he : resyncNotApplied s = dispatcherUnblocks
      (dropPush (s.withTrk { s.trk with generation := nextGeneration s.trk.generation })) := rfl
  generalize dropPush (s.withTrk { s.trk with generation := nextGeneration s.trk.generation }) = u at *
  have hdsp : u.dsp = s.dsp := by simpa using congrArg State.dsp hrest
  have hpermit : u.permit = s.permit := by simpa using congrArg State.permit hrest
  have hleft : leftUncertain u = leftUncertain s := by
    unfold leftUncertain
    rw [hdsp, hpermit]
  rw [he, dispatcherUnblocks_spec, hleft]
  exact ⟨hlot, hntc, rfl, congrArg (fun x => (x.withTrk s.trk).withDsp s.dsp) hrest⟩

/-- Settles O29: the decisions of `trkResync`. -/
theorem resyncSettlesPush : Obligations.ResyncSettlesPush := by
  intro s
  refine ⟨fun p h hp => ⟨?_, ?_⟩, fun h d hd => answers_resync ?_, fun h d => answers_resync (trkResync_busy h)⟩
  · obtain ⟨happlied, hdsp, hrest⟩ := resyncApplied_spec hp
    refine ⟨_, happlied, hdsp, hrest, answers_resync ?_⟩
    unfold trkResync
    rw [h]
    dsimp only
    rw [resyncMoved, hp, Option.map_some, Option.getD_some, movedBy_eq_leaving]
    rfl
  · obtain ⟨hlot, hntc, hdsp, hrest⟩ := resyncNotApplied_spec s
    have htrk := resyncNotApplied_trk s
    refine ⟨_, htrk, hlot, hntc, hdsp, hrest, answers_resync ?_⟩
    unfold trkResync movedBytes
    rw [h]
    dsimp only
    rw [htrk]
    rfl
  · obtain ⟨n, rfl⟩ : ∃ n, d = n + 2 := ⟨d - 2, by omega⟩
    unfold trkResync
    rw [h]
    rfl

/-! ### PURGE (R25) -/

/-- The removed billets are counted lot by lot, in whatever order they stand (R25, R141). -/
theorem lostLots_billets (s : State) :
    lostLots (s.trk.row ++ s.trk.gate.map (·.billet)) s.lot = lostLots (billets s) s.lot := by
  simp only [lostLots, billets, List.countP_append, Nat.add_comm]

theorem testedLots_empty (generation : Nat) (x : Lots) :
    testedLots
        { row := [], gate := [], push := none, state := .idle, timer := none, generation := generation } x =
      { x with
        queue := x.queue.filter fun l => decide (l.toLoad ≠ 0)
        lastClosed := ((x.queue.filter fun l => decide (l.toLoad = 0)).getLast?).or x.lastClosed } := by
  simp only [testedLots, endedLots, lotEnds_empty, ne_eq]

theorem kindIf_congr {p q : Prop} [Decidable p] [Decidable q] (h : p ↔ q) (k : Notice) :
    kindIf p k = kindIf q k := by
  unfold kindIf
  exact if_congr h rfl rfl

theorem endedLots_empty_iff (generation : Nat) (x : Lots) (bs : List Billet) :
    endedLots
        { row := [], gate := [], push := none, state := .idle, timer := none, generation := generation }
        (lostLots bs x).queue ≠ [] ↔ ∃ l ∈ x.queue, l.toLoad = 0 := by
  simp only [endedLots, lotEnds_empty, lostLots, ne_eq, List.filter_eq_nil_iff, List.mem_map]
  simp

/-- Settles O30: `purgeTrack_spec`, with the lots told by the track as it was. -/
theorem purgeEmptiesTrack : Obligations.PurgeEmptiesTrack := by
  intro s
  have h := purgeTrack_spec s
  have hlot := h.lot
  have hraises := h.raises
  rw [h.trk, lostLots_billets, testedLots_empty] at hlot
  rw [h.trk, kindIf_congr (endedLots_empty_iff ..),
    kindIf_congr (p := s.phu.isSome = true) (q := s.phu ≠ none) (by cases s.phu <;> simp),
    kindIf_congr (p := (!s.trk.gate.isEmpty) = true) (q := s.trk.gate ≠ []) (by cases s.trk.gate <;> simp)] at hraises
  refine ⟨_, h.trk, h.evu, h.phu, h.dsp, ⟨_, rfl, hlot⟩, hraises, h.rest,
    answers_of_owner rfl (by decide) (.of_ne (by decide)) (?_ : trkPurge s = _)⟩
  unfold trkPurge
  dsimp only
  cases s.trk.push <;> rfl

end Sys2Proof.Machine
end

section
/-! PROOFS. RESERVE, TAKE, DISCARD and the lapse timer (R111 to R116). -/

namespace Sys2Proof.Machine

theorem gateFront_nil {s : State} (h : s.trk.gate = []) : gateFront s = none := by
  unfold gateFront
  rw [h]
  rfl

theorem verdict_code (v : Verdict) :
    v.code = match v with
      | .pending => 0
      | .ready => 1
      | .under => 2
      | .over => 3
      | .suspect => 4
      | .spacer => 5
      | .overdwell => 6 := by
  cases v <;> rfl

theorem optBytes_two (v : Option Nat) :
    optBytes 2 v = match v with
      | none => ([0xFF, 0xFF] : List Byte)
      | some m => leBytes 2 m := by
  cases v <;> rfl

/-! ### TAKE and DISCARD (R114, R116) -/

section
variable {s : State} {g : GateBillet} {rest : List GateBillet} {tag : Nat}

theorem takeable_some {r : Reservation} (hg : s.trk.gate = g :: rest) (h0 : g.billet.tag ≠ 0)
    (hr : s.phu = some r) (ht : r.tag = g.billet.tag) : takeable s g.billet.tag = some g := by
  unfold takeable
  rw [if_pos ⟨h0, by simpa [hr] using ht⟩, gateFront_cons hg]
  simp [Option.filter]

theorem takeable_none (h : s.phu = none ∨ (∃ r, s.phu = some r ∧ r.tag ≠ tag) ∨ tag = 0 ∨ s.trk.gate = []) :
    takeable s tag = none := by
  unfold takeable
  obtain hp | ⟨r, hp, ht⟩ | h0 | hg := h
  · simp [hp]
  · simp [hp, ht]
  · simp [h0]
  · simp [gateFront_nil hg]

theorem phuTake_some (h : takeable s tag = some g) :
    phuTake tag s = (handOver Lot.forge g.billet s, handOverAnswer s (handOver Lot.forge g.billet s) g) := by
  unfold phuTake
  rw [h]

theorem phuTake_none (h : takeable s tag = none) : phuTake tag s = (s, .bare .lost) := by
  unfold phuTake
  rw [h]

theorem phuDiscard_front (hg : s.trk.gate = g :: rest) :
    phuDiscard g.billet.tag s =
      (handOver Lot.reject g.billet s, handOverAnswer s (handOver Lot.reject g.billet s) g) := by
  unfold phuDiscard
  rw [gateFront_cons hg]
  exact if_neg (not_not.2 rfl)

theorem phuDiscard_mismatch (hg : s.trk.gate = g :: rest) (ht : g.billet.tag ≠ tag) :
    phuDiscard tag s = (s, .bare .tagMismatch) := by
  unfold phuDiscard
  rw [gateFront_cons hg]
  exact if_pos ht

theorem phuDiscard_empty (hg : s.trk.gate = []) : phuDiscard tag s = (s, .bare .noBillet) := by
  unfold phuDiscard
  rw [gateFront_nil hg]

theorem answers_take {u : State} {ans : Answer} (hr : NoResetDue .press s) (h : phuTake tag s = (u, ans)) :
    Answers (.take .press (.items tag)) .press s u ans :=
  answers_of_owner rfl (by decide) hr h

theorem answers_discard {u : State} {ans : Answer} (hr : NoResetDue .press s) (h : phuDiscard tag s = (u, ans)) :
    Answers (.discard .press (.items tag)) .press s u ans :=
  answers_of_owner rfl (by decide) hr h

end

/-- Settles O33: the branches of `phuTake` and `phuDiscard`; the removal is `handOver_spec`. -/
theorem takeAndDiscard : Obligations.TakeAndDiscard := by
  refine ⟨fun g rest s hg hr h0 => ?_, fun tag s hr => ⟨fun h => answers_take hr (phuTake_none (takeable_none h)),
    fun h => answers_discard hr (phuDiscard_empty h), fun g rest hg ht =>
    answers_discard hr (phuDiscard_mismatch hg ht)⟩⟩
  intro final
  have hfinal : ∀ u, handOverAnswer s u g = { status := .ok, payload := final u } := fun u => by
    unfold handOverAnswer finalRecordBytes dwell Marks.bits
    dsimp only
    rw [estimateState_code, measurementBytes_eq, verdict_code, optBytes_two] <;> rfl
  refine ⟨fun r hp ht => ⟨_, handOver_spec _ g rest s hg, answers_take hr ?_⟩,
    ⟨_, handOver_spec _ g rest s hg, answers_discard hr ?_⟩⟩
  · exact (phuTake_some (takeable_some hg h0 hp ht)).trans (congrArg _ (hfinal _))
  · exact (phuDiscard_front hg).trans (congrArg _ (hfinal _))

/-! ### RESERVE and the lapse (R111, R113) -/

theorem phuReserve_empty {s : State} (h : s.trk.gate = []) : phuReserve s = (s, .bare .noBillet) := by
  unfold phuReserve
  rw [gateFront_nil h]

theorem phuReserve_ready {s : State} {g : GateBillet} {rest : List GateBillet} (h : s.trk.gate = g :: rest)
    (hv : g.verdict = .ready) :
    phuReserve s =
      (s.withPhu (some { tag := g.billet.tag, lapse := s.ms + 4000 }),
        { status := .ok, payload := reserveBytes s g }) := by
  unfold phuReserve
  rw [gateFront_cons h]
  exact if_pos hv

theorem phuReserve_notReady {s : State} {g : GateBillet} {rest : List GateBillet} (h : s.trk.gate = g :: rest)
    (hv : g.verdict ≠ .ready) :
    phuReserve s =
      (s, { status := .notReady, payload := leBytes 2 g.billet.tag ++ leBytes 1 g.verdict.code }) := by
  unfold phuReserve
  rw [gateFront_cons h]
  exact if_neg hv

/-- Settles O34: the branches of `phuReserve`, and the loss of the reservation when the lapse is due. -/
theorem reserveAndLapse : Obligations.ReserveAndLapse := by
  refine ⟨fun s hr => ?_, fun r s hp => ⟨fun hdue => ?_, fun hdue => ?_⟩⟩
  · have hans : ∀ {u ans}, phuReserve s = (u, ans) → Answers (.reserve .press (.items ())) .press s u ans :=
      fun h => answers_of_owner (owner := fun _ => phuReserve) rfl (by decide) hr h
    refine ⟨fun h => hans (phuReserve_empty h), fun g rest hg => ⟨fun hv => hans (phuReserve_notReady hg hv),
      fun hv => hans ((phuReserve_ready hg hv).trans ?_)⟩⟩
    unfold reserveBytes
    rw [optBytes_two] <;> rfl
  · obtain ⟨n, he, hn⟩ := loseReservation_raises s
    have hexpires : lapseExpires s = (s.withPhu none).withNtc n := by
      unfold lapseExpires
      rw [hp, Option.map_some, due_some, decide_eq_true hdue, if_pos rfl, he]
    rw [hp] at hn
    refine ⟨_, congrArg Host.Outcome.next hexpires, rfl, hn, ?_⟩
    simp only [State.withPhu, State.withNtc]
  · refine congrArg Host.Outcome.next (?_ : lapseExpires s = s)
    unfold lapseExpires
    rw [hp, Option.map_some, due_some, decide_eq_false (by omega), if_neg (by decide)]

end Sys2Proof.Machine
end

section
/-! PROOFS. CADENCE, RUN, STOP, DISPATCH STATUS and ZONE RESTORE (R54, R55, R61, R76, R88). -/

namespace Sys2Proof.Machine

/-! ### CADENCE, RUN and STOP (R54, R55, R61) -/

theorem storedCadence_eq (v : Nat) :
    storedCadence v = if v = 0 then 0 else if v < 20 then 20 else if 1200 < v then 1200 else v := by
  unfold storedCadence clamp
  split_ifs <;> omega

theorem dspCadence_eq (v : Nat) (s : State) :
    dspCadence v s =
      (s.withDsp { s.dsp with pendingCadence := some (storedCadence v) },
        { status :=
            if storedCadence v ≠ v then .okClamped else if s.dsp.pendingCadence = none then .ok else .okReplaced
          payload := leBytes 2 (storedCadence v) ++ [if s.dsp.pendingCadence = none then 0 else 1] }) := by
  unfold dspCadence
  cases s.dsp.pendingCadence <;> rfl

theorem dspRun_of_run {s : State} (h : s.dsp.state = .run) : dspRun s = (s, runAnswer .ok s) := by
  unfold dspRun
  rw [if_pos h]

theorem dspRun_of_refused {s : State} {e : Status} (h : s.dsp.state ≠ .run) (he : runRefusal s = some e) :
    dspRun s = (s, runAnswer e s) := by
  unfold dspRun
  rw [if_neg h, he]

theorem dspRun_of_accepted {s : State} (h : s.dsp.state ≠ .run) (he : runRefusal s = none) :
    dspRun s =
      (s.withDsp { s.dsp with state := .run }, runAnswer .ok (s.withDsp { s.dsp with state := .run })) := by
  unfold dspRun
  rw [if_neg h, he]

/-- Settles O35: the fitted cycle, the checks of RUN in their order, and the two cases of STOP. -/
theorem cadenceRunAndStop : Obligations.CadenceRunAndStop := by
  refine ⟨fun v s hr => ?_, fun s => ?_, fun s => ?_⟩
  · intro stored
    have hstored : storedCadence v = stored := storedCadence_eq v
    refine answers_of_owner rfl (by decide) hr (?_ : dspCadence v s = _)
    rw [dspCadence_eq, hstored]
  · intro refused
    have hans : ∀ {u ans}, dspRun s = (u, ans) → Answers (.run .supervisor (.items ())) .supervisor s u ans :=
      fun h => answers_of_owner (owner := fun _ => dspRun) rfl (by decide) (.of_ne (by decide)) h
    refine ⟨fun h => hans (dspRun_of_run h), fun h => ⟨fun hp => hans (dspRun_of_refused h ?_),
      fun hp hb => hans (dspRun_of_refused h ?_), fun hp hb hu => hans (dspRun_of_refused h ?_),
      fun hp hb hu => hans (dspRun_of_accepted h ?_)⟩⟩ <;> unfold runRefusal
    · simp [hp]
    · simp [hp, hb]
    · simp [hp, hb.ne', hu]
    · simp [hp, hb.ne', hu]
  · have hans : ∀ {u ans}, dspStop s = (u, ans) → Answers (.stop .supervisor (.items ())) .supervisor s u ans :=
      fun h => answers_of_owner (owner := fun _ => dspStop) rfl (by decide) (.of_ne (by decide)) h
    refine ⟨fun h => hans ?_, fun h => hans ?_⟩ <;> unfold dspStop
    · rw [if_pos h]
      rfl
    · rw [if_neg h]
      rfl

/-! ### DISPATCH STATUS (R76) -/

theorem guardedCount_eq (s : State) : guardedCount s = (billets s).countP fun b => b.marks.guarded := by
  rw [← mapOrder_billets, List.countP_map]
  rfl

theorem leBytes_length (n v : Nat) : (leBytes n v).length = n := by
  induction n generalizing v with
  | zero => rfl
  | succ n ih => exact congrArg (· + 1) (ih (v / 256))

theorem length_flatten_leBytes (n : Nat) (p : PerZone Nat) : (p.toList.map (leBytes n)).flatten.length = 8 * n := by
  simp only [PerZone.toList, List.map_cons, List.map_nil, List.flatten_cons, List.flatten_nil, List.length_append,
    leBytes_length, List.length_nil]
  omega

theorem optBytes_length (n : Nat) (v : Option Nat) : (optBytes n v).length = n := by
  cases v with
  | none => exact List.length_replicate
  | some v => exact leBytes_length n v

theorem statusBytes_length (s : State) : (statusBytes s).length = 58 := by
  simp only [statusBytes, List.length_append, leBytes_length, optBytes_length, length_flatten_leBytes]

theorem effectiveCadence_code (d : Dispatcher) :
    (effectiveCadence d).code =
      if d.inferred = true then 2
      else
        match d.cadence with
        | .running _ => 0
        | .hold => 1 := by
  unfold effectiveCadence
  split
  · rfl
  · cases d.cadence <;> rfl

theorem dispatcherState_code (x : DispatcherState) :
    x.code = match x with
      | .stopped => 0
      | .run => 1
      | .blocked => 2 := by
  cases x <;> rfl

theorem cadenceTenths_eq (c : Cadence) :
    cadenceTenths c = match c with
      | .hold => 0
      | .running c => c / 100 := by
  cases c <;> rfl

/-- Settles O36: `statusBytes` with its codes written out. -/
theorem dispatchStatusReports : Obligations.DispatchStatusReports := by
  intro st s hr
  refine ⟨statusBytes s, statusBytes_length s, ?_, answers_of_owner (owner := fun _ => dspStatus) rfl
    (by cases st <;> decide) hr rfl⟩
  unfold statusBytes firstOfTwo handoverAge
  dsimp only
  rw [dispatcherState_code, trackState_code, cadenceTenths_eq, optBytes_two, effectiveCadence_code,
    guardedCount_eq] <;> rfl

/-! ### ZONE RESTORE (R88) -/

theorem ofNumber_none {n : Nat} (h : n = 0 ∨ 8 < n) : ZoneNo.ofNumber n = none := by
  obtain rfl | ⟨m, rfl⟩ : n = 0 ∨ ∃ m, n = m + 9 := h.imp_right fun h => ⟨n - 9, by omega⟩
  · rfl
  · rfl

theorem ofNumber_number (z : ZoneNo) : ZoneNo.ofNumber z.number = some z := by cases z <;> rfl

theorem restored_eq (r : ZoneRecord) :
    r.restored = if r.state = .fault then { r with state := .active, missCount := 0 } else r := by
  unfold ZoneRecord.restored
  cases r.state <;> rfl

/-- Settles O41: the two branches of `ilcRestore`. -/
theorem zoneRestoreEndsFault : Obligations.ZoneRestoreEndsFault := by
  intro n s
  refine ⟨fun h => answers_of_owner rfl (by decide) (.of_ne (by decide)) (?_ : ilcRestore n s = _), fun z hz =>
    ⟨_, rfl, answers_of_owner rfl (by decide) (.of_ne (by decide)) (?_ : ilcRestore n s = _)⟩⟩ <;> unfold ilcRestore
  · rw [ofNumber_none h]
    rfl
  · subst hz
    rw [ofNumber_number]
    dsimp only
    rw [restored_eq]
    generalize (if (s.zones.get z).state = .fault then _ else s.zones.get z) = r
    cases r.lastStatus <;> rfl

end Sys2Proof.Machine
end

section
/-! PROOFS. LOT OPEN, LOT ADJUST, LOT ABORT and LOT STATUS (R136 to R138, R142). -/

namespace Sys2Proof.Machine

/-! ### LOT OPEN (R136) -/

section
variable {s : State} {x : LotOpenArgs}

theorem openRefusal_range (h : x.recipe = 0 ∨ 15 < x.recipe) : openRefusal s x.recipe = some .range := by
  unfold openRefusal
  rw [if_pos (by omega)]

theorem openRefusal_invalid (h1 : 1 ≤ x.recipe) (h15 : x.recipe ≤ 15) (hv : recipeValidity s x.recipe ≠ 0) :
    openRefusal s x.recipe = some .recipeInvalid := by
  have hinvalid : recipeValid s x.recipe = false := by
    rw [← Bool.not_eq_true, recipeValid_iff]
    exact fun h => hv h.2
  unfold openRefusal
  rw [if_neg (by omega), hinvalid, Bool.not_false, if_pos rfl]

theorem openRefusal_valid (h1 : 1 ≤ x.recipe) (h15 : x.recipe ≤ 15) (hv : recipeValidity s x.recipe = 0) :
    openRefusal s x.recipe =
      if 2 ≤ s.lot.queue.length then some .lotQueueFull
      else if s.lot.queue.getLast?.any fun l => l.toLoad != 0 then some .busy
      else none := by
  unfold openRefusal
  rw [if_neg (by omega), (recipeValid_iff s x.recipe).2 ⟨h15, hv⟩, Bool.not_true, if_neg (by decide)]

theorem lotOpen_refused {e : Status} (h : openRefusal s x.recipe = some e) : lotOpen x s = (s, .bare e) := by
  unfold lotOpen
  rw [h]

theorem lotOpen_accepted (h : openRefusal s x.recipe = none) :
    lotOpen x s =
      (s.withLot
          { s.lot with
            queue :=
              s.lot.queue ++
                [{ number := s.lot.nextNumber, recipe := x.recipe, toLoad := clamp 1 9999 x.count, loaded := 0,
                   forged := 0, rejected := 0, lost := 0 }]
            nextNumber := if 255 ≤ s.lot.nextNumber then 1 else s.lot.nextNumber + 1 },
        { status := if clamp 1 9999 x.count = x.count then .ok else .okClamped
          payload := leBytes 1 s.lot.nextNumber ++ leBytes 1 x.recipe ++ leBytes 2 (clamp 1 9999 x.count) }) := by
  unfold lotOpen
  rw [h]
  rfl

end

theorem clamp_count (n : Nat) : clamp 1 9999 n = if n = 0 then 1 else if 9999 < n then 9999 else n := by
  unfold clamp
  split_ifs <;> omega

/-- No lot is left LOADING. -/
theorem newest_runOut {s : State} (h : ∀ l ∈ s.lot.queue, l.toLoad = 0) :
    ¬(s.lot.queue.getLast?.any fun l => l.toLoad != 0) = true := by
  rw [Option.any_eq_true]
  rintro ⟨l, hm, hne⟩
  exact absurd (h l (List.mem_of_getLast? hm)) (by simpa using hne)

/-! ### LOT ADJUST and LOT ABORT (R135, R137, R138) -/

/-- The newest lot takes its new to-load, and the lots are tested for closing. -/
theorem setNewestLoad_spec {s : State} {l : Lot} {older : List Lot} (h : s.lot.queue = older ++ [l]) (n : Nat) :
    (setNewestLoad n s).lot = testedLots s.trk { s.lot with queue := older ++ [{ l with toLoad := n }] } ∧
      Raises (kindIf (endedLots s.trk (older ++ [{ l with toLoad := n }]) ≠ []) .lotClosed) s.ntc
        (setNewestLoad n s).ntc ∧
      ((setNewestLoad n s).withLot s.lot).withNtc s.ntc = s := by
  have he : setNewestLoad n s =
      closeLots (s.withLot { s.lot with queue := older ++ [{ l with toLoad := n }] }) := by
    unfold setNewestLoad
    rw [h, List.getLast?_append, List.dropLast_concat]
    rfl
  obtain ⟨m, hm, hr⟩ := closeLots_raises (s.withLot { s.lot with queue := older ++ [{ l with toLoad := n }] })
  rw [he, hm]
  exact ⟨rfl, hr, by simp only [State.withLot, State.withNtc]⟩

section
variable {s : State} {st : Station} {step : BitVec 8}

theorem answers_lotAdjust (hst : st = .loader ∨ st = .supervisor) {u : State} {ans : Answer}
    (h : lotAdjust step s = (u, ans)) : Answers (.lotAdjust st (.items step)) st s u ans := by
  obtain rfl | rfl := hst
  · exact answers_of_owner rfl (by decide) (.of_ne (by decide)) h
  · exact answers_of_owner rfl (by decide) (.of_ne (by decide)) h

theorem answers_lotAbort {u : State} {ans : Answer} (h : lotAbort s = (u, ans)) :
    Answers (.lotAbort .supervisor (.items ())) .supervisor s u ans :=
  answers_of_owner (owner := fun _ => lotAbort) rfl (by decide) (.of_ne (by decide)) h

theorem lotAdjust_badStep (h : step.toInt ∉ allowedSteps) : lotAdjust step s = (s, .bare .badStep) := by
  unfold lotAdjust
  rw [if_pos h]

theorem lotAdjust_noLot (h : step.toInt ∈ allowedSteps) (hq : s.lot.queue = []) :
    lotAdjust step s = (s, .bare .noLot) := by
  unfold lotAdjust
  rw [if_neg (not_not.2 h), hq]
  rfl

theorem lotAdjust_newest {l : Lot} {older : List Lot} (h : step.toInt ∈ allowedSteps)
    (hq : s.lot.queue = older ++ [l]) :
    lotAdjust step s = (setNewestLoad (steppedLoad l.toLoad step.toInt) s, loadAnswer l) := by
  unfold lotAdjust
  rw [if_neg (not_not.2 h), hq, List.getLast?_append]
  rfl

theorem lotAbort_noLot (hq : s.lot.queue = []) : lotAbort s = (s, .bare .noLot) := by
  unfold lotAbort
  rw [hq]
  rfl

theorem lotAbort_newest {l : Lot} {older : List Lot} (hq : s.lot.queue = older ++ [l]) :
    lotAbort s = (setNewestLoad 0 s, loadAnswer l) := by
  unfold lotAbort
  rw [hq, List.getLast?_append]
  rfl

end

/-- Settles O52: the checks of LOT OPEN in their order, and the branches of LOT ADJUST and LOT ABORT. -/
theorem lotOpenAdjustAndAbort : Obligations.LotOpenAdjustAndAbort := by
  refine ⟨fun x s => ?_, fun st step s hst => ?_⟩
  · intro refused
    have hans : ∀ {u ans}, lotOpen x s = (u, ans) →
        Answers (.lotOpen .supervisor (.items x)) .supervisor s u ans := fun h =>
      answers_of_owner rfl (by decide) (.of_ne (by decide)) h
    refine ⟨fun h => hans (lotOpen_refused (openRefusal_range h)), fun h1 h15 =>
      ⟨fun hv => hans (lotOpen_refused (openRefusal_invalid h1 h15 hv)), fun hv =>
      ⟨fun hq => hans (lotOpen_refused ?_), fun l hq hl => hans (lotOpen_refused ?_), fun hq hl => ?_⟩⟩⟩
    · rw [openRefusal_valid h1 h15 hv, if_pos hq]
    · rw [openRefusal_valid h1 h15 hv, hq, if_neg (by simp), if_pos (by simpa using hl.ne')]
    · intro count
      have hcount : clamp 1 9999 x.count = count := clamp_count x.count
      refine hans ((lotOpen_accepted ?_).trans (by rw [hcount]))
      rw [openRefusal_valid h1 h15 hv, if_neg (by omega), if_neg (newest_runOut hl)]
  intro allowed
  refine ⟨fun h => answers_lotAdjust hst (lotAdjust_badStep h), fun hq =>
    ⟨fun h => answers_lotAdjust hst (lotAdjust_noLot h hq), answers_lotAbort (lotAbort_noLot hq)⟩,
    fun l older hq => ?_⟩
  intro after
  exact ⟨fun h => ⟨_, setNewestLoad_spec hq _, answers_lotAdjust hst (lotAdjust_newest h hq)⟩,
    ⟨_, setNewestLoad_spec hq _, answers_lotAbort (lotAbort_newest hq)⟩⟩

/-! ### LOT STATUS (R142) -/

theorem lotInTrack_billets (s : State) (n : Nat) :
    lotInTrack s n = (billets s).countP fun b => decide (b.lot = n) := by
  unfold lotInTrack billets
  rw [List.countP_append, List.countP_map, Nat.add_comm]
  rfl

theorem queuedLotBytes_eq (s : State) (l : Lot) :
    queuedLotBytes s l =
      leBytes 1 l.number ++ leBytes 1 l.recipe ++ ([if l.toLoad = 0 then 1 else 0] : List Byte) ++
        leBytes 2 l.toLoad ++ leBytes 2 l.loaded ++ leBytes 2 l.forged ++ leBytes 2 l.rejected ++
        leBytes 2 l.lost ++ leBytes 1 ((billets s).countP fun b => decide (b.lot = l.number)) ++
        ([if s.trk.push.any (fun p => decide (p.lot = l.number)) = true then 1 else 0] : List Byte) := by
  have hphase : leBytes 1 (if l.toLoad = 0 then 1 else 0) = ([if l.toLoad = 0 then 1 else 0] : List Byte) := by
    split_ifs <;> rfl
  have hpending : leBytes 1 (flagCode (lotPending s l.number)) =
      ([if s.trk.push.any (fun p => decide (p.lot = l.number)) = true then 1 else 0] : List Byte) := by
    unfold lotPending
    show leBytes 1 (flagCode (s.trk.push.any fun p => decide (p.lot = l.number))) = _
    cases s.trk.push.any (fun p => decide (p.lot = l.number)) <;> rfl
  unfold queuedLotBytes lotCountBytes
  rw [hphase, hpending, lotInTrack_billets]
  simp only [List.append_assoc]

theorem lastClosedBytes_eq (l : Option Lot) :
    lastClosedBytes l =
      match l with
      | none => (List.replicate 12 0xFF : List Byte)
      | some l =>
        leBytes 1 l.number ++ leBytes 1 l.recipe ++ leBytes 2 l.toLoad ++ leBytes 2 l.loaded ++
          leBytes 2 l.forged ++ leBytes 2 l.rejected ++ leBytes 2 l.lost := by
  cases l with
  | none => rfl
  | some l => simp only [lastClosedBytes, lotCountBytes, List.append_assoc]

theorem optBytes_one (v : Option Nat) :
    optBytes 1 v = match v with
      | none => ([0xFF] : List Byte)
      | some r => leBytes 1 r := by
  cases v <;> rfl

/-- Settles O53: the bytes of `lotStatus`, with `spacersNeeded` as the number of spacers. -/
theorem lotStatusReports : Obligations.LotStatusReports := by
  intro st s hr
  refine ⟨spacersNeeded s, fun l hl => ?_, fun hq => ?_, answers_of_owner (owner := fun _ => lotStatus) rfl
    (by cases st <;> decide) hr ?_⟩
  · unfold spacersNeeded spacersAsked
    rw [hl]
    refine ⟨fun h => ?_, fun r hr hne => ?_⟩
    · obtain h | h := h <;> simp [h]
    · simp [hr, hne]
  · unfold spacersNeeded
    rw [hq]
    rfl
  · unfold lotStatus
    rw [funext (queuedLotBytes_eq s), lastClosedBytes_eq, optBytes_one] <;> rfl

end Sys2Proof.Machine
end

section
/-! PROOFS. The expiry of the dispatch timer (R59 to R66) and the loss of PERMIT (R56). -/

namespace Sys2Proof.Machine

/-! ### The cadence at an expiry (R62, R64) -/

/-- The cadence, the handover time and the inference with which an expiry computes its grants: a pending cadence
is applied, and then the press is tested for idleness. -/
structure CadenceTaken (s : State) (d : Dispatcher) : Prop where
  state : d.state = s.dsp.state
  pending : d.pendingCadence = none
  applied : ∀ v, s.dsp.pendingCadence = some v →
    d.cadence = (if v = 0 then .hold else .running (v * 100)) ∧ d.lastHandover = s.ms ∧ d.inferred = false
  kept : s.dsp.pendingCadence = none →
    d.cadence = s.dsp.cadence ∧ d.lastHandover = s.dsp.lastHandover ∧
      (d.inferred = true ↔
        s.dsp.inferred = true ∨
          ∃ c, s.dsp.cadence = .running c ∧ s.trk.gate ≠ [] ∧ 2 * c < s.ms - s.dsp.lastHandover)

theorem pressIdle_iff (s : State) :
    pressIdle s = true ↔
      s.dsp.inferred = false ∧
        ∃ c, s.dsp.cadence = .running c ∧ s.trk.gate ≠ [] ∧ 2 * c < s.ms - s.dsp.lastHandover := by
  unfold pressIdle
  cases s.dsp.cadence with
  | hold => simp
  | running c => simp [and_assoc]

/-- A cadence that has just been applied has restarted the handover time, so the press is not idle. -/
theorem not_pressIdle_of_handover {s : State} (h : s.dsp.lastHandover = s.ms) : ¬pressIdle s = true := by
  rw [pressIdle_iff]
  rintro ⟨-, c, -, -, hlt⟩
  omega

theorem cadenceTaken (s : State) :
    inferIdle (applyCadence s) = s.withDsp (inferIdle (applyCadence s)).dsp ∧
      CadenceTaken s (inferIdle (applyCadence s)).dsp := by
  have heq : inferIdle (applyCadence s) = s.withDsp (inferIdle (applyCadence s)).dsp := by
    obtain ⟨d, hd⟩ := applyCadence_eq s
    obtain ⟨e, he⟩ := inferIdle_eq (applyCadence s)
    rw [he, hd]
    rfl
  refine ⟨heq, ?_⟩
  cases hp : s.dsp.pendingCadence with
  | some v =>
    have ha : applyCadence s = s.withDsp
        { s.dsp with
          cadence := if v = 0 then .hold else .running (v * 100)
          pendingCadence := none, inferred := false, lastHandover := s.ms } := by
      unfold applyCadence
      rw [hp]
    have hi : inferIdle (applyCadence s) = applyCadence s := by
      unfold inferIdle
      exact if_neg (not_pressIdle_of_handover (by rw [ha]; rfl))
    rw [hi, ha]
    exact ⟨rfl, rfl, fun w hw => by cases hp.symm.trans hw; exact ⟨rfl, rfl, rfl⟩, fun hn => by
      cases hp.symm.trans hn⟩
  | none =>
    have ha : applyCadence s = s := by
      unfold applyCadence
      rw [hp]
    rw [ha]
    unfold inferIdle
    split
    · rename_i hidle
      obtain ⟨-, hc⟩ := (pressIdle_iff s).1 hidle
      exact ⟨rfl, hp, fun w hw => (by cases hp.symm.trans hw), fun _ => ⟨rfl, rfl, fun _ => .inr hc, fun _ => rfl⟩⟩
    · rename_i hidle
      refine ⟨rfl, hp, fun w hw => (by cases hp.symm.trans hw), fun _ => ⟨rfl, rfl, .inl, fun h => ?_⟩⟩
      refine h.elim id fun hc => ?_
      by_contra hi
      exact hidle ((pressIdle_iff s).2 ⟨by simpa using hi, hc⟩)

/-! ### The grants (R59) -/

theorem computeGrants_run {s : State} (h : s.dsp.state = .run) :
    computeGrants s =
      (setGuards s).withDsp
        { s.dsp with
          grants := allocate s.pst.budget (zoneDemands s)
          setpoints := setpointsOf (allocate s.pst.budget (zoneDemands s))
          totalDemand := (zoneDemands s).total } := by
  unfold computeGrants
  rw [h]

theorem computeGrants_halted {s : State} (h : s.dsp.state ≠ .run) :
    computeGrants s = haltHeating s.dsp.state (clearGuards s) := by
  unfold computeGrants
  cases hs : s.dsp.state with
  | run => exact absurd hs h
  | stopped => rfl
  | blocked => rfl

/-- The grants are all that DSP computes at an expiry. -/
theorem computeGrants_dsp (s : State) :
    (computeGrants s).dsp =
      { s.dsp with
        grants := (computeGrants s).dsp.grants, setpoints := (computeGrants s).dsp.setpoints
        totalDemand := (computeGrants s).dsp.totalDemand } := by
  by_cases h : s.dsp.state = .run
  · rw [computeGrants_run h]
    rfl
  · rw [computeGrants_halted h]
    rfl

/-! ### The expiry of the dispatch timer (R58, R59) -/

theorem exec_dispatchTimer_due {s : State} (h : s.dsp.timerExpiry ≤ s.ms) :
    exec .dispatchTimerExpiry s = .next (dispatchExpires s) := by
  refine congrArg Host.Outcome.next (?_ : dispatchTimerExpires s = _)
  unfold dispatchTimerExpires
  rw [if_pos h]

theorem exec_dispatchTimer_early {s : State} (h : s.ms < s.dsp.timerExpiry) :
    exec .dispatchTimerExpiry s = .next s := by
  refine congrArg Host.Outcome.next (?_ : dispatchTimerExpires s = _)
  unfold dispatchTimerExpires
  rw [if_neg (by omega)]

/-- The state after steps 1 to 4 of an expiry but for the hand-over: the cadence is taken, and the grants are
computed and stored (R59). -/
def grantsStored (s : State) : State := computeGrants (inferIdle (applyCadence s))

/-- An expiry leaves the track as the grants were computed, and hands ILC the stored set (R59, R80). -/
theorem dispatchExpires_handed (s : State) :
    (dispatchExpires s).trk = (grantsStored s).trk ∧
      (dispatchExpires s).ilc = (handGrants (grantsStored s)).ilc ∧
      (dispatchExpires s).zones = (handGrants (grantsStored s)).zones :=
  ⟨(handSet_onlyIlc _ (grantsStored s)).trk, rfl, rfl⟩

/-- What DSP holds after an expiry: the cadence taken, the stored set, and the timer started again. -/
theorem dispatchExpires_dsp_eq (s : State) :
    (dispatchExpires s).dsp =
      { (inferIdle (applyCadence s)).dsp with
        timerInterval := s.pst.period, timerExpiry := s.ms + s.pst.period
        grants := (grantsStored s).dsp.grants, setpoints := (grantsStored s).dsp.setpoints
        totalDemand := (grantsStored s).dsp.totalDemand } := by
  rw [dispatchExpires_dsp, computeGrants_dsp]
  rfl

/-- Computing the grants leaves ILC and the zone records to the hand-over. -/
theorem grantsStored_keeps (s : State) :
    (grantsStored s).ilc = s.ilc ∧ (grantsStored s).zones = s.zones := by
  obtain ⟨e, he⟩ := computeGrants_eq (inferIdle (applyCadence s))
  unfold grantsStored
  rw [he, (cadenceTaken s).1]
  split <;> exact ⟨rfl, rfl⟩

theorem grantsStored_halted {s : State} (h : s.dsp.state ≠ .run) :
    (grantsStored s).trk = (clearGuards s).trk ∧ (grantsStored s).dsp.grants = .const 0 ∧
      (grantsStored s).dsp.setpoints = .const 0 ∧ (grantsStored s).dsp.totalDemand = 0 := by
  obtain ⟨heq, hc⟩ := cadenceTaken s
  unfold grantsStored
  rw [computeGrants_halted (by rwa [hc.state])]
  refine ⟨?_, rfl, rfl, rfl⟩
  rw [heq]
  rfl

/-- Settles O37: the cadence is `cadenceTaken`, the hand-over is `handSet_spec`. -/
theorem dispatchExpiry : Obligations.DispatchExpiry := by
  refine ⟨fun s h => exec_dispatchTimer_early h, fun s h => ⟨_, exec_dispatchTimer_due h, ?_⟩⟩
  obtain ⟨htrk, hilc, hzones⟩ := dispatchExpires_handed s
  obtain ⟨hilc0, hzones0⟩ := grantsStored_keeps s
  have hdsp := dispatchExpires_dsp_eq s
  have hc := (cadenceTaken s).2
  obtain ⟨hbegin, hwait, -⟩ := handSet_spec
    { setpoints := (grantsStored s).dsp.setpoints, grants := (grantsStored s).dsp.grants } (grantsStored s)
  rw [hilc0, hzones0] at hbegin hwait
  refine ⟨by rw [hdsp]; exact hc.state, by rw [hdsp], by rw [hdsp], by rw [hdsp]; exact hc.pending,
    fun v hv => by rw [hdsp]; exact hc.applied v hv, fun hp => by rw [hdsp]; exact hc.kept hp,
    (dispatchExpires_onlyDispatch s).restored, fun hs => ?_, fun hr => ?_, fun hr => ?_⟩
  · obtain ⟨ht, hg, hp, hd⟩ := grantsStored_halted hs
    rw [hdsp]
    exact ⟨hg, hp, hd, htrk.trans ht⟩
  · obtain ⟨hi, hz⟩ := hbegin hr
    rw [hilc, hzones, hdsp]
    unfold handGrants
    rw [hi]
    exact ⟨rfl, rfl, rfl, rfl, fun z => PerZone.get_const none z, hz⟩
  · rw [hilc, hzones, hdsp]
    exact hwait hr

/-! ### The grants follow the demands (R71 to R74) -/

theorem cappedDemand_active {r : ZoneRecord} (h : r.state = .active) (d : Nat) :
    cappedDemand r d =
      if r.lastStatus = some .limit then min (min d (r.rating.getD 0)) (r.lastMean * 100 * 9 / 8)
      else min d (r.rating.getD 0) := by
  unfold cappedDemand
  rw [h]

theorem cappedDemand_inactive {r : ZoneRecord} (h : r.state ≠ .active) (d : Nat) : cappedDemand r d = 0 := by
  unfold cappedDemand
  cases hs : r.state with
  | active => exact absurd hs h
  | disabled => rfl
  | fault => rfl

theorem allocate_get (budget : Nat) (d : PerZone Nat) (z : ZoneNo) :
    (allocate budget d).get z = if d.total ≤ budget then d.get z else d.get z * budget / d.total := by
  unfold allocate
  split
  · rfl
  · exact PerZone.get_tabulate ..

theorem total_eq (d : PerZone Nat) :
    d.total = d.z1 + d.z2 + d.z3 + d.z4 + d.z5 + d.z6 + d.z7 + d.z8 := by
  simp only [PerZone.total, PerZone.toList, List.sum_cons, List.sum_nil]
  omega

/-- Eight floors of shares of a budget add up to at most the budget. -/
theorem allocate_total_le (budget : Nat) (d : PerZone Nat) : (allocate budget d).total ≤ budget := by
  unfold allocate
  split
  · assumption
  · rename_i h
    have hadd : ∀ a b, a * budget / d.total + b * budget / d.total ≤ (a + b) * budget / d.total := fun a b => by
      rw [Nat.add_mul]
      exact Nat.div_add_div_le_add_div ..
    calc (PerZone.tabulate fun z => d.get z * budget / d.total).total
        ≤ (d.z1 + d.z2 + d.z3 + d.z4 + d.z5 + d.z6 + d.z7 + d.z8) * budget / d.total := by
          rw [total_eq]
          have h2 := hadd d.z1 d.z2
          have h3 := hadd (d.z1 + d.z2) d.z3
          have h4 := hadd (d.z1 + d.z2 + d.z3) d.z4
          have h5 := hadd (d.z1 + d.z2 + d.z3 + d.z4) d.z5
          have h6 := hadd (d.z1 + d.z2 + d.z3 + d.z4 + d.z5) d.z6
          have h7 := hadd (d.z1 + d.z2 + d.z3 + d.z4 + d.z5 + d.z6) d.z7
          have h8 := hadd (d.z1 + d.z2 + d.z3 + d.z4 + d.z5 + d.z6 + d.z7) d.z8
          simp only [PerZone.tabulate, PerZone.get]
          omega
      _ = d.total * budget / d.total := by rw [← total_eq]
      _ = budget := Nat.mul_div_cancel_left _ (by omega)

theorem const_zero_total : (PerZone.const 0).total = 0 := rfl

/-- The grants that an expiry stores, in RUN: the capped demands, allocated (R71 to R74). -/
theorem grantsStored_run {s : State} (h : s.dsp.state = .run) :
    (grantsStored s).trk = (setGuards s).trk ∧
      (grantsStored s).dsp.grants = allocate s.pst.budget (zoneDemands (inferIdle (applyCadence s))) ∧
      (grantsStored s).dsp.setpoints = setpointsOf (grantsStored s).dsp.grants ∧
      (grantsStored s).dsp.totalDemand = (zoneDemands (inferIdle (applyCadence s))).total := by
  obtain ⟨heq, hc⟩ := cadenceTaken s
  have hg : grantsStored s = _ := computeGrants_run (hc.state.trans h)
  rw [hg]
  refine ⟨?_, ?_, rfl, rfl⟩ <;> rw [heq] <;> rfl

theorem zoneDemands_get {s : State} (z : ZoneNo) :
    (zoneDemands (inferIdle (applyCadence s))).get z =
      cappedDemand (s.zones.get z)
        ((s.trk.row.map fun b =>
          recordDemand (inferIdle (applyCadence s)) b * overlap s z b / b.length).sum) := by
  rw [zoneDemands, PerZone.get_tabulate, (cadenceTaken s).1]
  rfl

theorem guardHolds_eq (s : State) (b : Billet) :
    guardHolds s b =
      decide
        (b.recipe ≠ 0 ∧ b.marks.overheated = false ∧ b.marks.overdwell = false ∧
          (recipeFields s b.recipe).tsMax ≤ b.ts + 150) := by
  unfold guardHolds
  rw [Bool.eq_iff_iff]
  simp [and_assoc]

/-- Settles O39: no grant exceeds its capped demand, and the grants are those of `zoneDemands`. -/
theorem grantsFollowDemands : Obligations.GrantsFollowDemands := by
  refine ⟨fun s h => ⟨_, exec_dispatchTimer_due h, ?_⟩, fun s s1 h hrun hs1 =>
    ⟨_, zoneDemands s1, exec_dispatchTimer_due h, ?_⟩⟩
  · rw [dispatchExpires_dsp_eq]
    dsimp only
    by_cases hrun : s.dsp.state = .run
    · obtain ⟨-, hg, hp, -⟩ := grantsStored_run hrun
      rw [hp, hg]
      have hle : ∀ z, (allocate s.pst.budget (zoneDemands (inferIdle (applyCadence s)))).get z ≤
          cappedDemand (s.zones.get z) _ := fun z => (allocate_le ..).trans (zoneDemands_get z).le
      refine ⟨allocate_total_le .., fun z => ⟨fun hz => ?_, (hle z).trans (cappedDemand_le_rating ..),
        setpointsOf_get ..⟩⟩
      exact Nat.le_zero.1 ((hle z).trans (cappedDemand_inactive hz _).le)
    · obtain ⟨-, hg, hp, -⟩ := grantsStored_halted hrun
      rw [hp, hg]
      exact ⟨Nat.zero_le _, fun z => by simp⟩
  · subst hs1
    obtain ⟨ht, hg, -, hd⟩ := grantsStored_run hrun
    rw [dispatchExpires_dsp_eq, (dispatchExpires_handed s).1, ht, hg, hd]
    refine ⟨fun z => ?_, fun z hz => ?_, rfl, fun z => allocate_get .., ?_⟩
    · intro raw hz
      rw [zoneDemands_get, cappedDemand_active hz]
    · rw [zoneDemands_get, cappedDemand_inactive hz]
    · unfold setGuards
      simp only [guardHolds_eq]
      rfl

/-! ### The loss of PERMIT (R56) -/

/-- Settles O40: PERMIT_LOST makes the expiry due, and that expiry is one outside RUN. -/
theorem permitLostStops : Obligations.PermitLostStops := by
  intro s
  refine ⟨fun hp => ?_, fun hp => ?_, ⟨_, rfl, rfl, rfl⟩⟩
  · obtain ⟨hn, hr⟩ := raise_spec .permitOff (haltHeating .stopped (s.withPermit false))
    refine ⟨makeExpiryDue (raise .permitOff (haltHeating .stopped (s.withPermit false))), _, hn, rfl, rfl, rfl,
      congrArg Host.Outcome.next (?_ : permitBecomesAbsent s = _), exec_dispatchTimer_due le_rfl, ?_⟩
    · unfold permitBecomesAbsent
      rw [if_pos hp]
    · obtain ⟨-, hg, hp, -⟩ := grantsStored_halted
        (s := makeExpiryDue (raise .permitOff (haltHeating .stopped (s.withPermit false)))) (by
          show DispatcherState.stopped ≠ .run
          decide)
      rw [dispatchExpires_dsp_eq]
      exact ⟨(cadenceTaken _).2.state, hg, hp, rfl⟩
  · refine congrArg Host.Outcome.next (?_ : permitBecomesAbsent s = s)
    unfold permitBecomesAbsent
    rw [hp, if_neg (by decide)]

end Sys2Proof.Machine
end

section
/-! PROOFS. The zones along the row (R11, R12), the demand of a record (R66 to R70), the shares of a zone's energy
(R34 to R37) and the two-node update (R38 to R41). -/

namespace Sys2Proof.Machine

/-! ### The zones lie end to end (R11) -/

/-- The zones before a zone, the zone, and those after it. -/
theorem zones_split (z : ZoneNo) :
    ZoneNo.all = ZoneNo.all.take (z.number - 1) ++ z :: ZoneNo.all.drop z.number := by
  cases z <;> rfl

theorem number_of_mem_take (z : ZoneNo) : ∀ y ∈ ZoneNo.all.take (z.number - 1), y.number ≤ z.number - 1 := by
  cases z <;> decide

theorem zoneStart_eq (s : State) (z : ZoneNo) :
    zoneStart s z = ((ZoneNo.all.take (z.number - 1)).map fun y => (s.zones.get y).length).sum := by
  cases z <;> rfl

theorem zoneEnd_eq (s : State) (z : ZoneNo) :
    zoneEnd s z = ((ZoneNo.all.take z.number).map fun y => (s.zones.get y).length).sum := by
  have htake : ZoneNo.all.take z.number = ZoneNo.all.take (z.number - 1) ++ [z] := by cases z <;> rfl
  rw [zoneEnd, zoneStart_eq, htake, List.map_append, List.sum_append, List.map_singleton, List.sum_singleton]

/-- The first zones are together no longer than more of them. -/
theorem sum_take_le (f : ZoneNo → Nat) {n m : Nat} (h : n ≤ m) :
    ((ZoneNo.all.take n).map f).sum ≤ ((ZoneNo.all.take m).map f).sum := by
  obtain ⟨rest, hrest⟩ := List.take_prefix_take_left (l := ZoneNo.all) h
  rw [← hrest, List.map_append, List.sum_append]
  exact Nat.le_add_right ..

theorem zoneStart_next (s : State) {z next : ZoneNo} (h : next.number = z.number + 1) :
    zoneStart s next = zoneEnd s z := by
  rw [zoneStart_eq, zoneEnd_eq, h, Nat.add_sub_cancel]

theorem zoneEnd_le_rowLength (s : State) (z : ZoneNo) : zoneEnd s z ≤ rowLength s := by
  have h8 : z.number ≤ 8 := by cases z <;> decide
  rw [zoneEnd_eq]
  exact sum_take_le _ h8

theorem overlap_eq (s : State) (z : ZoneNo) (b : Billet) :
    (overlap s z b : Int) =
      max 0 (min ((b.trailing : Int) + b.length) (zoneEnd s z) - max (b.trailing : Int) (zoneStart s z)) := by
  unfold overlap Billet.leading
  omega

/-! ### The demand of a record (R66 to R70) -/

theorem zoneAt_inside {s : State} {z : ZoneNo} {m : Nat} (h1 : zoneStart s z ≤ m) (h2 : m < zoneEnd s z) :
    zoneAt s m = z := by
  have hbefore : ∀ y ∈ ZoneNo.all.take (z.number - 1), zoneEnd s y ≤ zoneStart s z := fun y hy => by
    rw [zoneEnd_eq, zoneStart_eq]
    exact sum_take_le _ (number_of_mem_take z y hy)
  have hfind : ZoneNo.all.find? (fun y => decide (m < zoneEnd s y)) = some z :=
    List.find?_eq_some_iff_append.2 ⟨by simpa using h2, _, _, zones_split z, fun y hy => by
      have := hbefore y hy
      simp only [Bool.not_eq_true', decide_eq_false_iff_not]
      omega⟩
  rw [zoneAt, hfind, Option.getD_some]

theorem zoneAt_beyond {s : State} {m : Nat} (h : rowLength s ≤ m) : zoneAt s m = .z8 := by
  have hfind : ZoneNo.all.find? (fun y => decide (m < zoneEnd s y)) = none :=
    List.find?_eq_none.2 fun y _ => by
      have := zoneEnd_le_rowLength s y
      simp only [decide_eq_true_eq]
      omega
  rw [zoneAt, hfind, Option.getD_none]

theorem mayDemand_iff (s : State) (b : Billet) :
    mayDemand s b = true ↔
      b.recipe ≠ 0 ∧ b.marks.overheated = false ∧ b.marks.overdwell = false ∧
        b.ts + 150 < (recipeFields s b.recipe).tsMax := by
  unfold mayDemand
  simp [and_assoc]

theorem effectiveCadence_held {d : Dispatcher} (h : d.inferred = true ∨ d.cadence = .hold) :
    effectiveCadence d = .idleInferred ∨ effectiveCadence d = .hold := by
  unfold effectiveCadence
  split
  · exact .inl rfl
  · rename_i hi
    rw [h.resolve_left hi]
    exact .inr rfl

theorem effectiveCadence_running {d : Dispatcher} {c : Nat} (hi : d.inferred = false) (hc : d.cadence = .running c) :
    effectiveCadence d = .running c := by
  unfold effectiveCadence
  rw [hi, hc]
  rfl

/-- Settles O38: the demand law of a record that may demand, by the zone of its midpoint and the cadence. -/
theorem demandOfRecord : Obligations.DemandOfRecord := by
  intro s b f m held total surface mean
  refine ⟨fun h => ?_, fun h0 hhot hdwell hts z hz => ?_⟩
  · unfold recordDemand
    refine if_neg fun hmay => ?_
    obtain ⟨h0, hhot, hdwell, hts⟩ := (mayDemand_iff s b).1 hmay
    obtain h | h | h | h := h
    · exact h0 h
    · exact absurd (h.symm.trans hhot) (by decide)
    · exact absurd (h.symm.trans hdwell) (by decide)
    · exact absurd hts (not_lt.2 h)
  · have hzone : zoneAt s (midpoint b) = z := by
      obtain ⟨h1, h2⟩ | ⟨rfl, h⟩ := hz
      · exact zoneAt_inside h1 h2
      · exact zoneAt_beyond h
    have hdemand : recordDemand s b =
        total * (goal f (effectiveCadence s.dsp) z - mean) / 10000 * 1000 /
          max 1000 (residence f (effectiveCadence s.dsp) (zoneEnd s z - m)) := by
      unfold recordDemand
      rw [if_pos ((mayDemand_iff s b).2 ⟨h0, hhot, hdwell, hts⟩)]
      dsimp only
      rw [hzone]
      rfl
    refine ⟨fun h => ?_, fun c hi hc => ?_⟩
    · rw [hdemand]
      obtain he | he := effectiveCadence_held h <;> rw [he] <;> rfl
    · rw [hdemand, effectiveCadence_running hi hc]
      rfl

/-! ### The shares of a zone's energy (R34 to R36) -/

/-- Floored shares add up to at most the whole. -/
theorem sum_shares_le (e S : Nat) (l : List Nat) : (l.map fun o => e * o / S).sum * S ≤ e * l.sum := by
  induction l with
  | nil => simp
  | cons o l ih =>
    have ho := Nat.div_mul_le_self (e * o) S
    rw [List.map_cons, List.sum_cons, List.sum_cons, Nat.add_mul, Nat.mul_add]
    exact Nat.add_le_add ho ih

/-- Each floor loses less than one unit, and one of nothing loses nothing. -/
theorem le_sum_shares (e : Nat) {S : Nat} (hS : 0 < S) (l : List Nat) :
    e * l.sum + l.countP (fun o => decide (0 < o)) ≤
      ((l.map fun o => e * o / S).sum + l.countP fun o => decide (0 < o)) * S := by
  induction l with
  | nil => exact Nat.zero_le _
  | cons o l ih =>
    rw [List.map_cons, List.sum_cons, List.sum_cons, List.countP_cons]
    by_cases ho : 0 < o
    · have hlt := Nat.lt_div_mul_add (a := e * o) hS
      simp only [decide_eq_true ho, if_true]
      nlinarith
    · obtain rfl : o = 0 := by omega
      simpa using ih

theorem zoneShare_energy {s : State} {r : RoundRecord} {z : ZoneNo} {e : Nat} (h : r.get z = .energy e) (b : Billet) :
    zoneShare s r b z = e * overlap s z b / (s.trk.row.map (overlap s z)).sum := by
  unfold zoneShare occupied
  rw [h]

theorem zoneShare_void {s : State} {r : RoundRecord} {z : ZoneNo} (h : r.get z = .void) (b : Billet) :
    zoneShare s r b z = 0 := by
  unfold zoneShare
  rw [h]

/-- The shares of a zone, as floors of a list of overlaps. -/
theorem map_zoneShare {s : State} {r : RoundRecord} {z : ZoneNo} {e : Nat} (h : r.get z = .energy e) :
    (s.trk.row.map fun b => zoneShare s r b z) =
      (s.trk.row.map (overlap s z)).map fun o => e * o / (s.trk.row.map (overlap s z)).sum := by
  rw [List.map_map]
  exact List.map_congr_left fun b _ => zoneShare_energy h b

theorem sum_zoneShare_le {s : State} {r : RoundRecord} {z : ZoneNo} {e : Nat} (h : r.get z = .energy e) :
    (s.trk.row.map fun b => zoneShare s r b z).sum ≤ e := by
  rw [map_zoneShare h]
  have hle := sum_shares_le e (s.trk.row.map (overlap s z)).sum (s.trk.row.map (overlap s z))
  obtain h0 | hpos := Nat.eq_zero_or_pos (s.trk.row.map (overlap s z)).sum
  · rw [h0, List.sum_eq_zero fun x hx => ?_]
    · exact Nat.zero_le e
    · obtain ⟨o, -, rfl⟩ := List.mem_map.1 hx
      exact Nat.div_zero _
  · exact Nat.le_of_mul_le_mul_right hle hpos

theorem lt_sum_zoneShare {s : State} {r : RoundRecord} {z : ZoneNo} {e : Nat} (h : r.get z = .energy e)
    (hpos : 0 < (s.trk.row.map (overlap s z)).sum) :
    e < (s.trk.row.map fun b => zoneShare s r b z).sum + s.trk.row.countP fun b => decide (0 < overlap s z b) := by
  have hcount : (s.trk.row.countP fun b => decide (0 < overlap s z b)) =
      (s.trk.row.map (overlap s z)).countP fun o => decide (0 < o) := by
    rw [List.countP_map]
    rfl
  rw [map_zoneShare h, hcount]
  generalize s.trk.row.map (overlap s z) = l at *
  have hle := le_sum_shares e hpos l
  have hsome : 0 < l.countP fun o => decide (0 < o) := by
    rw [List.countP_pos_iff]
    obtain ⟨o, ho, hne⟩ := List.exists_mem_ne_zero_of_sum_ne_zero hpos.ne'
    exact ⟨o, ho, by simpa using Nat.pos_of_ne_zero hne⟩
  exact Nat.lt_of_mul_lt_mul_right (lt_of_lt_of_le (Nat.lt_add_of_pos_right hsome) hle)

/-! ### The two-node update (R38 to R41) -/

theorem nearestDiv_eq {n d q : Nat} (hd : 0 < d)
    (h : 2 * q * d ≤ 2 * n + d ∧ 2 * n + d < 2 * (q + 1) * d) : nearestDiv n d = q := by
  unfold nearestDiv
  have h1 : 2 * q * d = q * (2 * d) := by ring
  have h2 : 2 * (q + 1) * d = (q + 1) * (2 * d) := by ring
  rw [Nat.div_eq_iff (by omega)]
  rw [h1, h2] at h
  rw [Nat.add_mul] at h
  omega

theorem saturateTemp_spec (t : Int) :
    saturateTemp t ≤ 16000 ∧ (t < 0 → saturateTemp t = 0) ∧
      (0 ≤ t → t ≤ 16000 → (saturateTemp t : Int) = t) ∧ (16000 < t → saturateTemp t = 16000) := by
  unfold saturateTemp
  omega

/-- Settles O44: the geometry, the sums of the shares, and the saturation of the two new temperatures. -/
theorem sharesAndTwoNodeUpdate : Obligations.SharesAndTwoNodeUpdate := by
  refine ⟨fun s => ⟨rfl, fun z => ⟨rfl, fun next h => zoneStart_next s h, overlap_eq s z⟩⟩, fun s r z =>
    ⟨zoneShare_void, fun e h => ⟨fun b _ => zoneShare_energy h b, sum_zoneShare_le h, lt_sum_zoneShare h⟩⟩, ?_⟩
  intro f len eb dt ts tc total surface core es riseS riseC hs hc hriseS hriseC ts1 tc1 d ms ts2 tc2 ts3
  have hheated : heated f (capacity f len) eb ts tc = (ts1, tc1) :=
    Prod.ext (congrArg (ts + ·) (nearestDiv_eq hs hriseS)) (congrArg (tc + ·) (nearestDiv_eq hc hriseC))
  have htwo : twoNode f len eb dt ts tc = (saturateTemp ts3, saturateTemp tc2) := by
    unfold twoNode
    dsimp only
    rw [hheated]
    rfl
  obtain ⟨hs1, hs2, hs3, hs4⟩ := saturateTemp_spec ts3
  obtain ⟨hc1, hc2, hc3, hc4⟩ := saturateTemp_spec tc2
  rw [htwo]
  exact ⟨hs1, hc1, hs2, hs3, hs4, hc2, hc3, hc4⟩

end Sys2Proof.Machine
end

section
/-! PROOFS. The outcome of a poll and the end of a round (R80 to R85). -/

namespace Sys2Proof.Machine

/-! ### The outcome of a poll (R83, R84) -/

/-- The state after the outcome of a poll of a channel: its entry, ack and reply note, its zone record, and the
notices. -/
def pollDecided (z : ZoneNo) (e : Entry) (ack replied : Bool) (zone : ZoneRecord) (n : PerStation Notices)
    (s : State) : State :=
  ((s.withIlc (s.ilc.decide z e ack replied)).withZones (s.zones.set z zone)).withNtc n

theorem storeZone_raises (z : ZoneNo) (r : ZoneRecord) (s : State) :
    ∃ n, storeZone z r s = (s.withZones (s.zones.set z r)).withNtc n ∧
      Raises (kindIf (r.state = .fault ∧ (s.zones.get z).state ≠ .fault) .zoneFault) s.ntc n := by
  obtain ⟨n, he⟩ := raiseIf_eq (r.state == .fault && (s.zones.get z).state != .fault) .zoneFault
    (s.withZones (s.zones.set z r))
  have hr := (storeZone_spec z r s).2.1
  have he : storeZone z r s = (s.withZones (s.zones.set z r)).withNtc n := he
  rw [he] at hr
  exact ⟨n, he, hr⟩

theorem miss_faults_iff (r : ZoneRecord) :
    r.miss.state = .fault ∧ r.state ≠ .fault ↔ 3 ≤ r.missCount + 1 ∧ r.state = .active := by
  unfold ZoneRecord.miss
  dsimp only
  split_ifs with h
  · simp [h]
  · exact iff_of_false (fun hf => hf.2 hf.1) h

theorem goodReply_faults_iff (r : ZoneRecord) (status : ChannelStatus) (mean : Nat) :
    (r.goodReply status mean).state = .fault ∧ r.state ≠ .fault ↔ status = .fault ∧ r.state = .active := by
  unfold ZoneRecord.goodReply
  dsimp only
  split_ifs with h
  · simp [h]
  · exact iff_of_false (fun hf => hf.2 hf.1) h

theorem missedReply_decided (z : ZoneNo) (replied : Bool) (s : State) :
    ∃ n, missedReply z replied s = pollDecided z .void false replied (s.zones.get z).miss n s ∧
      Raises (kindIf (3 ≤ (s.zones.get z).missCount + 1 ∧ (s.zones.get z).state = .active) .zoneFault) s.ntc n := by
  obtain ⟨n, he, hr⟩ := storeZone_raises z (s.zones.get z).miss (s.withIlc (s.ilc.decide z .void false replied))
  exact ⟨n, he, kindIf_congr (miss_faults_iff (s.zones.get z)) .zoneFault ▸ hr⟩

theorem goodReply_decided (z : ZoneNo) (status : ChannelStatus) (r : InverterFrame) (s : State) :
    ∃ n, goodReply z status r s =
        pollDecided z (.energy r.energy) true true ((s.zones.get z).goodReply status r.meanPower) n s ∧
      Raises
        (kindIf (status = .fault ∧ (s.zones.get z).state = .active) .zoneFault |||
          kindIf (status = .mainsLow) .mainsLow) s.ntc n := by
  obtain ⟨n, he, hr⟩ := storeZone_raises z ((s.zones.get z).goodReply status r.meanPower)
    (s.withIlc (s.ilc.decide z (.energy r.energy) true true))
  obtain ⟨m, hm, hr'⟩ := raiseIf_raises (status == .mainsLow) .mainsLow
    (storeZone z ((s.zones.get z).goodReply status r.meanPower)
      (s.withIlc (s.ilc.decide z (.energy r.energy) true true)))
  rw [he] at hm hr'
  refine ⟨m, ?_, (kindIf_congr (goodReply_faults_iff (s.zones.get z) status r.meanPower) .zoneFault ▸ hr).trans ?_⟩
  · unfold goodReply
    dsimp only
    rw [he, hm]
    rfl
  · rwa [kindIf_congr (p := (status == .mainsLow) = true) (q := status = .mainsLow) beq_iff_eq] at hr'

/-! ### The poll that follows (R81, R82) -/

theorem next_of_number {z next : ZoneNo} (h : next.number = z.number + 1) : z.next = some next := by
  rw [ZoneNo.next, ← h, ofNumber_number]

theorem ne_of_number {z next : ZoneNo} (h : next.number = z.number + 1) : next ≠ z := by
  rintro rfl
  omega

/-- A round carried on with the poll of its next channel. -/
def polledNext (rd : Round) (next : ZoneNo) (s : State) : Round :=
  { carried := rd.carried
    poll :=
      { channel := next
        setpoint := if (s.zones.get next).state = .active then rd.carried.setpoints.get next else 0
        ack := s.ilc.ack.get next
        spoiled := false } }

/-- Before channel 8 the outcome is followed by the poll of the next channel, which it does not touch. -/
theorem nextPoll_decided {rd : Round} {z next : ZoneNo} (hz : rd.poll.channel = z) (h : next.number = z.number + 1)
    (e : Entry) (ack replied : Bool) (zone : ZoneRecord) (n : PerStation Notices) (s : State) :
    nextPoll rd (pollDecided z e ack replied zone n s) =
      ((s.withIlc
            { round := some (polledNext rd next s)
              waiting := s.ilc.waiting
              entries := s.ilc.entries.set z (some e)
              ack := s.ilc.ack.set z ack
              replied := s.ilc.replied.set z replied }).withZones (s.zones.set z zone)).withNtc n := by
  have hpoll : pollOf (pollDecided z e ack replied zone n s) rd.carried next = (polledNext rd next s).poll := by
    have hzone : (pollDecided z e ack replied zone n s).zones.get next = s.zones.get next :=
      PerZone.get_set_ne _ _ (ne_of_number h)
    have hack : (pollDecided z e ack replied zone n s).ilc.ack.get next = s.ilc.ack.get next :=
      PerZone.get_set_ne _ _ (ne_of_number h)
    unfold pollOf
    rw [hzone, hack]
    rfl
  unfold nextPoll
  rw [hz, next_of_number h]
  dsimp only
  unfold sendPoll
  rw [hpoll]
  rfl

theorem pollFrame_restored (i : Inverters) (zones : PerZone ZoneRecord) (n : PerStation Notices) (s : State) :
    (((((s.withIlc i).withZones zones).withNtc n).withIlc s.ilc).withZones s.zones).withNtc s.ntc = s := by
  simp only [State.withIlc, State.withZones, State.withNtc]

/-! ### What a reply frame does (R82) -/

theorem replyChecks_iff (r : InverterFrame) :
    replyChecks r = true ↔
      byteSum
        (leBytes 1 r.channel ++ leBytes 1 r.status ++ leBytes 3 r.energy ++ leBytes 2 r.meanPower ++
          leBytes 1 r.check) = 0 :=
  beq_iff_eq

theorem statusOf_none {n : Nat} (h : 3 < n) : statusOf n = none := by
  obtain ⟨m, rfl⟩ : ∃ m, n = m + 4 := ⟨n - 4, by omega⟩
  rfl

theorem number_inj {y z : ZoneNo} (h : y.number = z.number) : y = z := by
  have hy := ofNumber_number y
  rw [h, ofNumber_number] at hy
  exact (Option.some_inj.1 hy).symm

section
variable {s : State} {rd : Round} {r : InverterFrame}

theorem takeReply_idle (h : s.ilc.round = none) : takeReply r s = s := by
  unfold takeReply
  rw [h]

theorem takeReply_spoiled (h : s.ilc.round = some rd) (hs : rd.poll.spoiled = true) : takeReply r s = s := by
  unfold takeReply
  rw [h]
  exact if_pos hs

theorem takeReply_badStart (h : s.ilc.round = some rd) (hs : rd.poll.spoiled = false) (hr : r.start ≠ 0x72) :
    takeReply r s = spoilPoll rd s := by
  unfold takeReply
  rw [h]
  dsimp only
  rw [hs, if_neg (by decide), if_pos hr]

theorem takeReply_badCheck (h : s.ilc.round = some rd) (hs : rd.poll.spoiled = false) (hr : r.start = 0x72)
    (hc : replyChecks r = false) : takeReply r s = nextPoll rd (missedReply rd.poll.channel true s) := by
  unfold takeReply
  rw [h]
  dsimp only
  rw [hs, if_neg (by decide), if_neg (not_not.2 hr), hc, Bool.not_false, if_pos rfl]

theorem takeReply_checked (h : s.ilc.round = some rd) (hs : rd.poll.spoiled = false) (hr : r.start = 0x72)
    (hc : replyChecks r = true) :
    takeReply r s =
      if r.channel ≠ rd.poll.channel.number then if hasReplied s r.channel then s else spoilPoll rd s
      else
        match statusOf r.status with
        | some st => nextPoll rd (goodReply rd.poll.channel st r s)
        | none => spoilPoll rd s := by
  unfold takeReply
  rw [h]
  dsimp only
  rw [hs, if_neg (by decide), if_neg (not_not.2 hr), hc, Bool.not_true, if_neg (by decide)] <;> rfl

theorem takeReply_good {status : ChannelStatus} (h : s.ilc.round = some rd) (hs : rd.poll.spoiled = false)
    (hr : r.start = 0x72) (hc : replyChecks r = true) (hz : r.channel = rd.poll.channel.number)
    (hst : statusOf r.status = some status) :
    takeReply r s = nextPoll rd (goodReply rd.poll.channel status r s) := by
  rw [takeReply_checked h hs hr hc, if_neg (not_not.2 hz), hst]

/-- A checked reply of a channel that has replied is discarded, whatever the poll. -/
theorem takeReply_stray {y : ZoneNo} (h : s.ilc.round = some rd) (hr : r.start = 0x72) (hc : replyChecks r = true)
    (hy : y ≠ rd.poll.channel) (hn : r.channel = y.number) (hreplied : s.ilc.replied.get y = true) :
    takeReply r s = s := by
  cases hs : rd.poll.spoiled with
  | true => exact takeReply_spoiled h hs
  | false =>
    rw [takeReply_checked h hs hr hc, if_pos (by rw [hn]; exact fun he => hy (number_inj he)),
      if_pos ((hasReplied_iff s r.channel).2 ⟨y, hn, hreplied⟩)]

theorem takeReply_badChannel (h : s.ilc.round = some rd) (hs : rd.poll.spoiled = false) (hr : r.start = 0x72)
    (hc : replyChecks r = true) (hz : r.channel ≠ rd.poll.channel.number)
    (hn : ∀ y : ZoneNo, r.channel = y.number → s.ilc.replied.get y = false) :
    takeReply r s = spoilPoll rd s := by
  have hreplied : ¬hasReplied s r.channel = true := by
    rw [hasReplied_iff]
    rintro ⟨y, hy, ht⟩
    exact absurd ((hn y hy).symm.trans ht) (by decide)
  rw [takeReply_checked h hs hr hc, if_pos hz, if_neg hreplied]

theorem takeReply_badStatus (h : s.ilc.round = some rd) (hs : rd.poll.spoiled = false) (hr : r.start = 0x72)
    (hc : replyChecks r = true) (hz : r.channel = rd.poll.channel.number) (hst : 3 < r.status) :
    takeReply r s = spoilPoll rd s := by
  rw [takeReply_checked h hs hr hc, if_neg (not_not.2 hz), statusOf_none hst]

theorem closeWindow_eq (h : s.ilc.round = some rd) :
    closeWindow s = nextPoll rd (missedReply rd.poll.channel rd.poll.spoiled s) := by
  unfold closeWindow
  rw [h]

theorem closeWindow_idle (h : s.ilc.round = none) : closeWindow s = s := by
  unfold closeWindow
  rw [h]

/-- A miss is the close of the window, or a reply whose check is wrong. -/
theorem exec_missed {i : Instr} {replied : Bool} (h : s.ilc.round = some rd)
    (hi : i = .replyWindowClose ∧ replied = rd.poll.spoiled ∨
      ∃ r, i = .inverterReply r ∧ replied = true ∧ rd.poll.spoiled = false ∧ r.start = 0x72 ∧
        byteSum
            (leBytes 1 r.channel ++ leBytes 1 r.status ++ leBytes 3 r.energy ++ leBytes 2 r.meanPower ++
              leBytes 1 r.check) ≠ 0) :
    exec i s = .next (nextPoll rd (missedReply rd.poll.channel replied s)) := by
  obtain ⟨rfl, rfl⟩ | ⟨r, rfl, rfl, hs, hr, hc⟩ := hi
  · exact congrArg Host.Outcome.next (closeWindow_eq h)
  · refine congrArg Host.Outcome.next (takeReply_badCheck h hs hr ?_)
    rwa [← Bool.not_eq_true, replyChecks_iff]

end

/-- Settles O42: each reply by its branch of `takeReply`, and the outcome by `nextPoll_decided`. -/
theorem pollOutcomes : Obligations.PollOutcomes := by
  refine ⟨fun s rd z next r status h hz hnext hs hr hn hst hc => ?_, fun s rd r h => ?_,
    fun s rd z next i replied h hz hnext hi => ?_⟩
  · obtain ⟨n, he, hkinds⟩ := goodReply_decided z status r s
    refine ⟨_, congrArg Host.Outcome.next (takeReply_good h hs hr ((replyChecks_iff r).2 hc) (by rw [hn, hz]) hst), ?_⟩
    rw [hz, he, nextPoll_decided hz hnext]
    exact ⟨rfl, rfl, hkinds, pollFrame_restored ..⟩
  · refine ⟨fun hs => congrArg Host.Outcome.next (takeReply_spoiled h hs), ?_⟩
    intro checkSum
    refine ⟨fun y hr hc hy hn ht =>
      congrArg Host.Outcome.next (takeReply_stray h hr ((replyChecks_iff r).2 hc) hy hn ht), fun hs hbad =>
      congrArg Host.Outcome.next (?_ : takeReply r s = spoilPoll rd s)⟩
    by_cases hr : r.start = 0x72
    · obtain ⟨hc, ⟨hz, hn⟩ | ⟨hz, hst⟩⟩ := hbad.resolve_left (not_not.2 hr)
      · exact takeReply_badChannel h hs hr ((replyChecks_iff r).2 hc) hz hn
      · exact takeReply_badStatus h hs hr ((replyChecks_iff r).2 hc) hz hst
    · exact takeReply_badStart h hs hr
  · obtain ⟨n, he, hkinds⟩ := missedReply_decided z replied s
    refine ⟨_, exec_missed h hi, ?_⟩
    rw [hz, he, nextPoll_decided hz hnext]
    exact ⟨rfl, rfl, hkinds, pollFrame_restored ..⟩

/-! ### The end of a round (R80, R85) -/

/-- The state in which a round has ended and none has begun: the record waits for EST, the entries are clear. -/
def roundClosed (s : State) : State :=
  (s.withEst { s.est with rounds := s.est.rounds ++ [roundRecordOf s.ilc.entries] }).withIlc
    { s.ilc with round := none, waiting := none, entries := .const none }

/-- A waiting set begins the next round as a set handed with no round in progress does. -/
theorem completeRound_eq (s : State) :
    completeRound s =
      match s.ilc.waiting with
      | none => roundClosed s
      | some d => handSet d (roundClosed s) := by
  unfold completeRound
  cases s.ilc.waiting <;> rfl

theorem nextPoll_last {rd : Round} (h : rd.poll.channel = .z8) (s : State) : nextPoll rd s = completeRound s := by
  unfold nextPoll
  rw [h]
  rfl

theorem handSet_eq (d : DispatchSet) (s : State) : ∃ i zones, handSet d s = (s.withIlc i).withZones zones := by
  unfold handSet
  split
  · exact ⟨_, _, rfl⟩
  · exact ⟨{ s.ilc with waiting := some d }, s.zones, by simp only [State.withIlc, State.withZones]⟩

/-- What the end of a round leaves, with a waiting set or without. -/
structure RoundEnded (s t : State) : Prop where
  est : t.est = { s.est with rounds := s.est.rounds ++ [roundRecordOf s.ilc.entries] }
  waiting : t.ilc.waiting = none
  entries : ∀ z, t.ilc.entries.get z = none
  ack : t.ilc.ack = s.ilc.ack
  replied : t.ilc.replied = s.ilc.replied
  rest : ((t.withEst s.est).withIlc s.ilc).withZones s.zones = s
  idle : s.ilc.waiting = none → t.ilc.round = none ∧ t.zones = s.zones
  next : ∀ d, s.ilc.waiting = some d →
    t.ilc.round =
        some
          { carried := d
            poll :=
              { channel := .z1
                setpoint := if s.zones.z1.state = .active then d.setpoints.z1 else 0
                ack := s.ilc.ack.z1
                spoiled := false } } ∧
      ∀ z, t.zones.get z = { s.zones.get z with lastGrant := d.grants.get z }

theorem completeRound_spec (s : State) : RoundEnded s (completeRound s) := by
  have hentries : ∀ z, (PerZone.const (none : Option Entry)).get z = none := PerZone.get_const none
  rw [completeRound_eq]
  cases hw : s.ilc.waiting with
  | none =>
    exact
      { est := rfl, waiting := rfl, entries := hentries, ack := rfl, replied := rfl
        rest := by simp only [roundClosed, State.withEst, State.withIlc, State.withZones]
        idle := fun _ => ⟨rfl, rfl⟩
        next := fun d hd => nomatch hw.symm.trans hd }
  | some d =>
    obtain ⟨hilc, hzones⟩ := (handSet_spec d (roundClosed s)).1 rfl
    obtain ⟨i, zones, he⟩ := handSet_eq d (roundClosed s)
    dsimp only
    exact
      { est := by rw [he]; rfl
        waiting := by rw [hilc]; rfl
        entries := by rw [hilc]; exact hentries
        ack := by rw [hilc]; rfl
        replied := by rw [hilc]; rfl
        rest := by
          rw [he]
          simp only [roundClosed, State.withEst, State.withIlc, State.withZones]
        idle := fun hn => nomatch hw.symm.trans hn
        next := fun e hd => by
          cases hw.symm.trans hd
          rw [hilc]
          exact ⟨rfl, hzones⟩ }

/-- An entry that is filled is that of the round record. -/
theorem roundRecordOf_get {entries : PerZone (Option Entry)} {z : ZoneNo} (h : entries.get z ≠ none) :
    entries.get z = some ((roundRecordOf entries).get z) := by
  obtain ⟨e, he⟩ := Option.ne_none_iff_exists'.1 h
  rw [roundRecordOf, PerZone.get_tabulate, he, Option.getD_some]

/-- The outcome of channel 8's poll and the end of the round (R83 to R85). -/
theorem roundCompletes_of_decided {s t : State} {rd : Round} {entry : Entry} {ack replied : Bool}
    {zone : ZoneRecord} {n : PerStation Notices} {kinds : KindSet} (h8 : rd.poll.channel = .z8)
    (hfilled : ∀ z, z ≠ .z8 → s.ilc.entries.get z ≠ none) (hkinds : Raises kinds s.ntc n)
    (ht : t = nextPoll rd (pollDecided .z8 entry ack replied zone n s)) :
    ∃ record, t.est = { s.est with rounds := s.est.rounds ++ [record] } ∧
      (∀ z, z ≠ .z8 → s.ilc.entries.get z = some (PerZone.get record z)) ∧
      PerZone.get record .z8 = entry ∧ t.ilc.waiting = none ∧
      (∀ z, t.ilc.entries.get z = none) ∧ t.ilc.ack = s.ilc.ack.set .z8 ack ∧
      t.ilc.replied = s.ilc.replied.set .z8 replied ∧ Raises kinds s.ntc t.ntc ∧
      (((t.withEst s.est).withIlc s.ilc).withZones s.zones).withNtc s.ntc = s ∧
      (s.ilc.waiting = none → t.ilc.round = none ∧ t.zones = s.zones.set .z8 zone) ∧
      ∀ d, s.ilc.waiting = some d →
        t.ilc.round =
            some
              { carried := d
                poll :=
                  { channel := .z1
                    setpoint := if s.zones.z1.state = .active then d.setpoints.z1 else 0
                    ack := s.ilc.ack.z1
                    spoiled := false } } ∧
          ∀ z, t.zones.get z = { (s.zones.set .z8 zone).get z with lastGrant := d.grants.get z } := by
  have hend := completeRound_spec (pollDecided .z8 entry ack replied zone n s)
  rw [← nextPoll_last h8, ← ht] at hend
  have hntc : t.ntc = n := by simpa [pollDecided] using congrArg State.ntc hend.rest
  refine ⟨_, hend.est, fun z hz => ?_, ?_, hend.waiting, hend.entries, hend.ack, hend.replied, hntc ▸ hkinds, ?_,
    hend.idle, hend.next⟩
  · have hentry : (s.ilc.entries.set .z8 (some entry)).get z = s.ilc.entries.get z := PerZone.get_set_ne _ _ hz
    have hget := roundRecordOf_get (entries := s.ilc.entries.set .z8 (some entry)) (z := z)
      (by rw [hentry]; exact hfilled z hz)
    rwa [hentry] at hget
  · have hget := roundRecordOf_get (entries := s.ilc.entries.set .z8 (some entry)) (z := .z8)
      (by rw [PerZone.get_set_same]; exact Option.some_ne_none entry)
    rw [PerZone.get_set_same] at hget
    exact (Option.some_inj.1 hget).symm
  · have h := congrArg (fun u => (((u.withEst s.est).withIlc s.ilc).withZones s.zones).withNtc s.ntc) hend.rest
    simp only [pollDecided, State.withEst, State.withIlc, State.withZones, State.withNtc] at h ⊢
    exact h

/-- Settles O43: the outcome by `missedReply_decided` or `goodReply_decided`, the end by `completeRound_spec`. -/
theorem roundCompletes : Obligations.RoundCompletes := by
  refine ⟨fun s rd i entry ack zone replied kinds h h8 hfilled => ?_, fun s h =>
    ⟨congrArg Host.Outcome.next (closeWindow_idle h), fun r => congrArg Host.Outcome.next (takeReply_idle h)⟩⟩
  intro z8 checkSum houtcome
  obtain ⟨hi, rfl, rfl, rfl, rfl⟩ | ⟨r, status, rfl, rfl, hs, hr, hn, hst, hc, rfl, rfl, rfl, rfl⟩ := houtcome
  · obtain ⟨n, he, hkinds⟩ := missedReply_decided .z8 replied s
    obtain ⟨record, hrest⟩ := roundCompletes_of_decided h8 hfilled hkinds rfl
    refine ⟨_, record, ?_, hrest⟩
    rw [exec_missed h hi, h8, he]
    rfl
  · obtain ⟨n, he, hkinds⟩ := goodReply_decided .z8 status r s
    obtain ⟨record, hrest⟩ := roundCompletes_of_decided h8 hfilled hkinds rfl
    refine ⟨_, record, congrArg Host.Outcome.next ?_, hrest⟩
    refine (takeReply_good h hs hr ((replyChecks_iff r).2 hc) (by rw [hn, h8]; rfl) hst).trans ?_
    rw [h8, he]
    rfl

end Sys2Proof.Machine
end

section
/-! PROOFS. The pyrometer inputs and the row pyrometer's samples (R92, R93, R95). -/

namespace Sys2Proof.Machine

/-! ### Replacing the state of an input -/

theorem setPyro_self (src : Pyro) (s : State) : setPyro src (pyroInput s src) s = s := by
  cases src
  · exact State.withPya_self s
  · exact State.withPyb_self s

theorem setPyro_setPyro (src : Pyro) (p q : PyroInput) (s : State) :
    setPyro src p (setPyro src q s) = setPyro src p s := by
  cases src <;> rfl

theorem takeSample_setPyro (src : Pyro) (v : Nat) (p : PyroInput) (s : State) :
    takeSample src v (setPyro src p s) = takeSample src v s := by
  unfold takeSample
  dsimp only
  rw [setPyro_setPyro]

theorem huntPyro_setFrame (src : Pyro) (frame : List Byte) (s : State) :
    huntPyro src (setPyro src { pyroInput s src with frame := frame } s) = huntPyro src s := by
  unfold huntPyro
  rw [pyroInput_setPyro, setPyro_setPyro]

/-! ### The bytes of a sample frame (R92) -/

theorem receiveSampleByte_hunting {src : Pyro} {s : State} (h : (pyroInput s src).frame = []) {b : Byte}
    (hb : b ≠ 0xC3) : receiveSampleByte src s b = s := by
  have hspec := receiveSampleByte_spec src s b
  dsimp only at hspec
  rw [hspec, if_pos ⟨h, hb⟩]

/-- A byte that begins a frame or continues it without completing it is kept. -/
theorem receiveSampleByte_partial {src : Pyro} {s : State} {b : Byte}
    (hstart : (pyroInput s src).frame = [] → b = 0xC3) (hlen : ((pyroInput s src).frame ++ [b]).length < 4) :
    receiveSampleByte src s b = setPyro src { pyroInput s src with frame := (pyroInput s src).frame ++ [b] } s := by
  have hspec := receiveSampleByte_spec src s b
  dsimp only at hspec
  rw [hspec, if_neg (fun h => h.2 (hstart h.1)), if_pos hlen]

theorem receiveSample_partial {src : Pyro} {more : List Byte} (bytes : List Byte) (s : State)
    (h : (pyroInput s src).frame ++ bytes = 0xC3 :: more) (hlen : more.length < 3) :
    receiveSample src bytes s = setPyro src { pyroInput s src with frame := 0xC3 :: more } s := by
  induction bytes generalizing s with
  | nil =>
    rw [← h, List.append_nil]
    exact (setPyro_self src s).symm
  | cons b bytes ih =>
    have hall := congrArg List.length h
    simp only [List.length_append, List.length_cons] at hall
    have hbyte : receiveSampleByte src s b = _ := receiveSampleByte_partial
      (fun hnil => by rw [hnil] at h; exact (List.cons.inj h).1)
      (by simp only [List.length_append, List.length_singleton]; omega)
    show receiveSample src bytes (receiveSampleByte src s b) = _
    rw [hbyte, ih _ (by rw [pyroInput_setPyro]; simpa using h), pyroInput_setPyro, setPyro_setPyro]

/-- Four bytes that sum to 0 are a sample, and others only end the frame. -/
theorem receiveSample_frame {src : Pyro} {lo hi check : Byte} {rest : List Byte} {s : State}
    (h : (pyroInput s src).frame ++ rest = [0xC3, lo, hi, check]) (hne : rest ≠ []) :
    receiveSample src rest s =
      if byteSum [0xC3, lo, hi, check] = 0 then takeSample src (lo.toNat + 256 * hi.toNat) s else huntPyro src s := by
  obtain ⟨bytes, last, rfl⟩ := exists_concat hne
  obtain ⟨hbytes, hlast⟩ := List.append_inj' (s₂ := [0xC3, lo, hi]) (t₂ := [check]) ((List.append_assoc ..).trans h) rfl
  obtain rfl : last = check := by simpa using hlast
  have hspec := receiveSampleByte_spec src
    (setPyro src { pyroInput s src with frame := [0xC3, lo, hi] } s) last
  dsimp only at hspec
  rw [pyroInput_setPyro] at hspec
  show List.foldl (receiveSampleByte src) s (bytes ++ [last]) = _
  rw [List.foldl_append]
  have hpartial : receiveSample src bytes s = _ := receiveSample_partial bytes s hbytes (by simp)
  show receiveSampleByte src (receiveSample src bytes s) last = _
  rw [hpartial, hspec, if_neg (by simp), if_neg (by simp), takeSample_setPyro, huntPyro_setFrame]
  rfl

theorem exec_sampleFrame {src : Pyro} {lo hi check : Byte} {rest : List Byte} {i : Instr} {s : State}
    (h : (pyroInput s src).frame ++ rest = [0xC3, lo, hi, check]) (hne : rest ≠ [])
    (harrives : i = .pyrometerSample src rest ∨ i = .sampleFrameStart src ∧ rest = [0xC3]) :
    exec i s = .next
      (if byteSum [0xC3, lo, hi, check] = 0 then takeSample src (lo.toNat + 256 * hi.toNat) s
       else huntPyro src s) := by
  obtain rfl | ⟨rfl, rfl⟩ := harrives
  · exact congrArg Host.Outcome.next (receiveSample_frame h hne)
  · exact congrArg Host.Outcome.next (receiveSample_frame h hne)

/-! ### The samples of the row pyrometer (R93, R95) -/

/-- An input that has taken a sample. -/
def sampled (v : Nat) : PyroInput :=
  { frame := [], lastSample := some { value := v, valid := decide (3000 ≤ v ∧ v ≤ 14000) } }

theorem judged_isSome (v : Nat) : (judged v).isSome = decide (3000 ≤ v ∧ v ≤ 14000) := by
  unfold judged
  split_ifs with h
  · simp [h]
  · simp [h]

theorem takeSample_row (v : Nat) (s : State) : takeSample .a v s = rowSample (judged v) (s.withPya (sampled v)) := by
  unfold takeSample
  dsimp only
  rw [judged_isSome]
  rfl

theorem takeSample_exit (v : Nat) (s : State) : takeSample .b v s = exitSample (judged v) (s.withPyb (sampled v)) := by
  unfold takeSample
  dsimp only
  rw [judged_isSome]
  rfl

theorem rowSample_skipped {m : Option Nat} {s : State} (h : s.trk.state = .pushing ∨ selected s = none) :
    rowSample m s = s := by
  unfold rowSample
  obtain h | h := h
  · rw [h]
  · rw [h]
    cases s.trk.state <;> rfl

theorem rowSample_selected {m : Option Nat} {s : State} {b : Billet} (h : s.trk.state ≠ .pushing)
    (hb : selected s = some b) :
    rowSample m s =
      s.withEst
        { s.est with
          corrections := s.est.corrections ++ [{ tag := b.tag, source := .a, sample := m }] } := by
  unfold rowSample
  rw [hb]
  cases hs : s.trk.state with
  | pushing => exact absurd hs h
  | idle => rfl
  | uncertain => rfl

theorem rowSample_eq (m : Option Nat) (s : State) : ∃ est, rowSample m s = s.withEst est := by
  unfold rowSample
  split
  · exact ⟨s.est, (State.withEst_self s).symm⟩
  · exact ⟨s.est, (State.withEst_self s).symm⟩
  · exact ⟨_, rfl⟩

theorem selected_none {s : State}
    (h : ∀ b ∈ s.trk.row, ¬(b.trailing ≤ s.pst.positionA ∧ s.pst.positionA < b.trailing + b.length)) :
    selected s = none :=
  List.find?_eq_none.2 fun b hb => by
    rw [decide_eq_true_iff]
    exact h b hb

theorem selected_first {s : State} {b : Billet} {before after : List Billet} (hrow : s.trk.row = before ++ b :: after)
    (h : ∀ c ∈ before, ¬(c.trailing ≤ s.pst.positionA ∧ s.pst.positionA < c.trailing + c.length))
    (h1 : b.trailing ≤ s.pst.positionA) (h2 : s.pst.positionA < b.trailing + b.length) : selected s = some b :=
  List.find?_eq_some_iff_append.2 ⟨decide_eq_true ⟨h1, h2⟩, before, after, hrow, fun c hc => by
    rw [Bool.not_eq_true', decide_eq_false_iff_not]
    exact h c hc⟩

/-- Settles O48: complete frames by `exec_sampleFrame`, and what a row sample selects. -/
theorem pyrometerInputs : Obligations.PyrometerInputs := by
  refine ⟨fun lo hi check rest i s h hne harrives hsum => ?_, fun src s => ?_⟩
  · intro v
    have hexec := exec_sampleFrame (src := .a) h hne harrives
    rw [if_pos hsum, takeSample_row] at hexec
    obtain ⟨est, he⟩ := rowSample_eq (judged v) (s.withPya (sampled v))
    refine ⟨_, hexec, ?_, ?_, fun hskip => ?_, fun b before after hst hrow hbefore h1 h2 => ?_⟩
    · rw [he]
      rfl
    · rw [he]
      simp only [State.withPya, State.withEst]
    · rw [rowSample_skipped (s := s.withPya (sampled v)) (hskip.imp_right selected_none)]
      rfl
    · rw [rowSample_selected (s := s.withPya (sampled v)) hst (selected_first hrow hbefore h1 h2)]
      rfl
  · intro withFrame
    refine ⟨fun h => ⟨congrArg Host.Outcome.next ?_, fun b hb =>
        congrArg Host.Outcome.next (receiveSampleByte_hunting h hb)⟩,
      fun lo hi check rest i h hne harrives hsum => ?_, fun bytes hne hlen h => ⟨fun b => ?_, ?_⟩, rfl, rfl⟩
    · refine (receiveSampleByte_partial (fun _ => rfl) (by rw [h]; decide)).trans ?_
      rw [h]
      rfl
    · rw [exec_sampleFrame h hne harrives, if_neg hsum]
      rfl
    · have hpartial := receiveSampleByte_partial (src := src) (s := s) (b := b)
        (fun hnil => absurd (h.symm.trans hnil) hne) (by rw [h, List.length_append, List.length_singleton]; omega)
      rw [h] at hpartial
      exact congrArg Host.Outcome.next hpartial
    · have hpartial := receiveSampleByte_partial (src := src) (s := s) (b := 0xC3)
        (fun hnil => absurd (h.symm.trans hnil) hne) (by rw [h, List.length_append, List.length_singleton]; omega)
      rw [h] at hpartial
      exact congrArg Host.Outcome.next hpartial

end Sys2Proof.Machine
end

section
/-! PROOFS. The verdict of the gate front: its first decision and its re-evaluation after an exit sample, and the
front's timers (R99 to R106, R118). -/

namespace Sys2Proof.Machine

/-! ### Re-evaluation and the first verdict (R101, R105, R106) -/

theorem provisional_iff (v : Verdict) : v.provisional = true ↔ v = .ready ∨ v = .under := by
  cases v <;> simp [Verdict.provisional]

/-- The front as it stands with a verdict, and the reservation and the notices that follow (R106, R118). -/
def frontHolds (g : GateBillet) (rest : List GateBillet) (v : Verdict) (n : PerStation Notices) (s : State) : State :=
  ((s.withTrk { s.trk with gate := { g with verdict := v } :: rest }).withPhu
    (if LosesReservation g v s then none else s.phu)).withNtc n

theorem not_losesReservation_self (g : GateBillet) (s : State) : ¬LosesReservation g g.verdict s :=
  fun h => h.2.1 h.1

theorem verdictKinds_self (g : GateBillet) (s : State) : verdictKinds g g.verdict s = 0 := by
  unfold verdictKinds kindIf
  rw [if_neg (not_not.2 rfl), if_neg (not_losesReservation_self g s)]
  rfl

/-- A front that keeps its verdict is the state as it was. -/
theorem frontHolds_self {g : GateBillet} {rest : List GateBillet} {s : State} (hg : s.trk.gate = g :: rest) :
    frontHolds g rest g.verdict s.ntc s = s := by
  have ht : { s.trk with gate := { g with verdict := g.verdict } :: rest } = s.trk := by
    show { s.trk with gate := g :: rest } = s.trk
    rw [← hg]
  unfold frontHolds
  rw [ht, if_neg (not_losesReservation_self g s)]
  simp

/-- A re-evaluated front holds the verdict that the lines of R102 give it, when it is READY or UNDER. -/
theorem reevaluate_holds {g : GateBillet} {rest : List GateBillet} {s : State} (hg : s.trk.gate = g :: rest)
    {v : Verdict} (hv : v = if g.verdict = .ready ∨ g.verdict = .under then evaluateFront s g else g.verdict) :
    ∃ n, reevaluate s = frontHolds g rest v n s ∧ Raises (verdictKinds g v s) s.ntc n := by
  have hprov : v = if g.verdict.provisional = true then evaluateFront s g else g.verdict := by
    rw [hv]
    exact if_congr (provisional_iff g.verdict).symm rfl rfl
  obtain he | ⟨g', rest', n, hg', hp, -, he, hr⟩ := reevaluate_cases s
  · have htrk := reevaluate_spec s g rest hg
    rw [he, ← hprov] at htrk
    have hgate : g :: rest = { g with verdict := v } :: rest := hg.symm.trans (congrArg Track.gate htrk)
    have hself : v = g.verdict := (congrArg GateBillet.verdict (List.cons.inj hgate).1).symm
    refine ⟨s.ntc, ?_, ?_⟩
    · rw [he, hself, frontHolds_self hg]
    · rw [hself, verdictKinds_self]
      exact Raises.refl s.ntc
  · obtain ⟨rfl, rfl⟩ := List.cons.inj (hg.symm.trans hg')
    rw [if_pos hp] at hprov
    subst hprov
    exact ⟨n, he, hr⟩

theorem decideFirst_holds {g : GateBillet} {rest : List GateBillet} {s : State} (hg : s.trk.gate = g :: rest) :
    ∃ n, decideFirst s =
        ((s.withTrk { s.trk with gate := { g with verdict := evaluateFront s g } :: rest }).withEvu
          { phase := .decided, settle := none, wait := none, exitM := s.evu.exitM }).withNtc n ∧
      Raises Notice.verdict.bit s.ntc n := by
  rw [decideFirst_cons hg]
  exact ⟨_, rfl, (raise_spec .verdict _).1⟩

/-! ### What follows a sample of the front (R101, R105) -/

section
variable {g : GateBillet} {rest : List GateBillet} {s : State}

/-- After a sample an AWAITING front is decided with the exit measurement that stands then. -/
theorem afterExit_awaiting (hg : s.trk.gate = g :: rest) (hp : s.evu.phase = .awaiting) (m : Option Nat) :
    ∃ n, afterExit m s =
        ((s.withTrk
              { s.trk with
                gate :=
                  { g with
                    verdict :=
                      evaluate (recipeFields s g.billet.recipe) g.billet (m.or s.evu.exitM) } ::
                    rest }).withEvu
          { phase := .decided, settle := none, wait := none, exitM := m.or s.evu.exitM }).withNtc n ∧
      Raises Notice.verdict.bit s.ntc n := by
  have he : afterExit m s = decideFirst (s.withEvu { s.evu with exitM := m.or s.evu.exitM }) := by
    unfold afterExit
    rw [hp]
    dsimp only
    rw [noteExit_eq]
  rw [he]
  exact decideFirst_holds (s := s.withEvu { s.evu with exitM := m.or s.evu.exitM }) hg

/-- After a sample a DECIDED front holds the verdict evaluated now when the sample is valid and the verdict
provisional, and keeps its verdict otherwise. -/
theorem afterExit_decided (hg : s.trk.gate = g :: rest) (hp : s.evu.phase = .decided) (m : Option Nat) {v : Verdict}
    (hv : v =
      if m ≠ none ∧ (g.verdict = .ready ∨ g.verdict = .under) then
        evaluate (recipeFields s g.billet.recipe) g.billet (m.or s.evu.exitM)
      else g.verdict) :
    ∃ n, afterExit m s = frontHolds g rest v n (s.withEvu { s.evu with exitM := m.or s.evu.exitM }) ∧
      Raises (verdictKinds g v s) s.ntc n := by
  cases m with
  | none =>
    have he : afterExit none s = s := by
      unfold afterExit
      rw [hp]
      rfl
    rw [if_neg fun h => h.1 rfl] at hv
    subst hv
    refine ⟨s.ntc, ?_, ?_⟩
    · rw [he]
      exact (frontHolds_self hg).symm
    · rw [verdictKinds_self]
      exact Raises.refl s.ntc
  | some x =>
    have he : afterExit (some x) s = reevaluate (s.withEvu { s.evu with exitM := some x }) := by
      unfold afterExit
      rw [hp]
      rfl
    rw [he]
    refine reevaluate_holds (s := s.withEvu { s.evu with exitM := some x }) hg (hv.trans ?_)
    exact if_congr (and_iff_right (Option.some_ne_none x)) rfl rfl

theorem exitSample_stored (h : s.evu.phase = .noFront ∨ s.evu.phase = .settling) (m : Option Nat) :
    exitSample m s = s := by
  unfold exitSample
  obtain h | h := h <;> rw [h]

theorem exitSample_taken (hg : s.trk.gate = g :: rest) (h : s.evu.phase = .awaiting ∨ s.evu.phase = .decided)
    (m : Option Nat) :
    exitSample m s =
      afterExit m
        (s.withTrk { s.trk with gate := { g with billet := correctBillet s .b m g.billet } :: rest }) := by
  have hc : correctFront m s =
      s.withTrk { s.trk with gate := { g with billet := correctBillet s .b m g.billet } :: rest } := by
    unfold correctFront
    rw [gateFront_cons hg]
    exact setGateFront_cons _ hg
  unfold exitSample
  obtain h | h := h <;> rw [h] <;> exact congrArg (afterExit m) hc

end

/-- Settles O50: the sample is taken by the front phase; the verdict follows `afterExit`. -/
theorem exitSamples : Obligations.ExitSamples := by
  intro lo hi check rest arrives s h hne harrives hsum v sample exitM stored corrected
  have hexec := exec_sampleFrame (src := .b) h hne harrives
  rw [if_pos hsum, takeSample_exit] at hexec
  have hcorrected : ∀ b, correctBillet (s.withPyb (sampled v)) .b (judged v) b = corrected b := fun b => by
    unfold correctBillet correctedTs
    cases hs : judged v with
    | none =>
      have hsample : sample = none := hs
      simp only [corrected, hsample]
    | some m =>
      have hsample : sample = some m := hs
      simp only [corrected, hsample]
      rfl
  refine ⟨fun hp => ?_, fun g rest hg => ?_⟩
  · rw [hexec]
    exact congrArg Host.Outcome.next (exitSample_stored (s := s.withPyb (sampled v)) hp _)
  · intro b now
    have htaken := fun hp => exitSample_taken (s := s.withPyb (sampled v)) hg hp (judged v)
    rw [hcorrected] at htaken
    refine ⟨fun hp => ?_, fun hp => ?_⟩
    · obtain ⟨n, he, hr⟩ := afterExit_awaiting
        (s := (s.withPyb (sampled v)).withTrk { s.trk with gate := { g with billet := b } :: rest }) rfl hp
        (judged v)
      refine ⟨_, hexec.trans (congrArg Host.Outcome.next ((htaken (.inl hp)).trans he)), rfl, rfl, hr, rfl, ?_⟩
      simp only [State.withTrk, State.withEvu, State.withNtc, State.withPyb]
    · obtain ⟨n, he, hr⟩ := afterExit_decided
        (s := (s.withPyb (sampled v)).withTrk { s.trk with gate := { g with billet := b } :: rest }) rfl hp
        (judged v) rfl
      refine ⟨_, _, hexec.trans (congrArg Host.Outcome.next ((htaken (.inr hp)).trans he)), rfl, rfl, rfl, hr, rfl,
        rfl, ?_⟩
      simp only [frontHolds, State.withTrk, State.withEvu, State.withNtc, State.withPyb, State.withPhu]

/-! ### The timers of the front (R99, R100, R107) -/

/-- Settles O51: the branches of the two timers. -/
theorem frontTimersExpire : Obligations.FrontTimersExpire := by
  intro s
  refine ⟨fun expiry h => ⟨fun hdue hp => congrArg Host.Outcome.next ?_, fun hdue => congrArg Host.Outcome.next ?_⟩,
    fun h => congrArg Host.Outcome.next ?_, fun h => congrArg Host.Outcome.next ?_, fun expiry h =>
    ⟨fun hdue => congrArg Host.Outcome.next ?_, fun g rest hdue hp hg => ?_⟩⟩
  · show settleExpires s = _
    unfold settleExpires
    rw [h, due_some, decide_eq_true hdue, Bool.not_true, if_neg (by decide), hp]
  · show settleExpires s = _
    unfold settleExpires
    rw [h, due_some, decide_eq_false (by omega), Bool.not_false, if_pos rfl]
  · show settleExpires s = _
    unfold settleExpires
    rw [h, due_none, Bool.not_false, if_pos rfl]
  · show waitExpires s = _
    unfold waitExpires
    rw [h, due_none, Bool.not_false, if_pos rfl]
  · show waitExpires s = _
    unfold waitExpires
    rw [h, due_some, decide_eq_false (by omega), Bool.not_false, if_pos rfl]
  · obtain ⟨n, he, hr⟩ := decideFirst_holds (s := s.withEvu { s.evu with wait := none }) hg
    have hw : waitExpires s = decideFirst (s.withEvu { s.evu with wait := none }) := by
      unfold waitExpires
      rw [h, due_some, decide_eq_true hdue, Bool.not_true, if_neg (by decide), hp]
    refine ⟨_, congrArg Host.Outcome.next (hw.trans he), rfl, rfl, hr, ?_⟩
    simp only [State.withTrk, State.withEvu, State.withNtc]

end Sys2Proof.Machine
end

section
/-! PROOFS. What a round record does (R32 to R37, R42 to R46, R50, R51). -/

namespace Sys2Proof.Machine

/-! ### The update of the records (R36, R42 to R44, R50) -/

theorem roundInterval_eq {s : State} {dt : Nat} (h0 : s.est.lastRound = none → dt = s.pst.period)
    (h1 : ∀ t, s.est.lastRound = some t → dt = max 1 (min (s.ms - t) 1000)) : roundInterval s = dt := by
  unfold roundInterval
  cases h : s.est.lastRound with
  | none => exact (h0 h).symm
  | some t => exact (h1 t h).symm

theorem touchesVoid_iff (s : State) (r : RoundRecord) (b : Billet) :
    touchesVoid s r b = true ↔ ∃ z, r.get z = .void ∧ 0 < overlap s z b := by
  have hall : ∀ z : ZoneNo, z ∈ ZoneNo.all := fun z => by cases z <;> decide
  unfold touchesVoid
  simp only [List.any_eq_true, Bool.and_eq_true, beq_iff_eq, decide_eq_true_eq, hall, true_and]

theorem roundUntracks_iff (s : State) (r : RoundRecord) :
    roundUntracks s r = true ↔
      ∃ b ∈ s.trk.row, b.estimate = .tracked ∧ ∃ z, r.get z = .void ∧ 0 < overlap s z b := by
  unfold roundUntracks
  simp only [List.any_eq_true, Bool.and_eq_true, beq_iff_eq, touchesVoid_iff]

theorem occupied_eq_zero_iff (s : State) (z : ZoneNo) : occupied s z = 0 ↔ ∀ b ∈ s.trk.row, overlap s z b = 0 := by
  unfold occupied
  simp [List.sum_eq_zero_iff]

theorem idlePower_iff (s : State) (r : RoundRecord) :
    idlePower s r = true ↔ ∃ z e, r.get z = .energy e ∧ 0 < e ∧ ∀ b ∈ s.trk.row, overlap s z b = 0 := by
  have hall : ∀ z : ZoneNo, z ∈ ZoneNo.all := fun z => by cases z <;> decide
  unfold idlePower
  rw [List.any_eq_true]
  refine exists_congr fun z => ?_
  rw [and_iff_right (hall z)]
  cases r.get z with
  | void => simp
  | energy e => simp [occupied_eq_zero_iff]

/-- The update of a record, with its marks told by the limits of the recipe (R43, R44). -/
theorem updateBillet_eq (s : State) (dt eb : Nat) (b : Billet) :
    updateBillet s dt eb b =
      { b with
        energy := min 4294967295 (b.energy + eb)
        ts := (twoNode (recipeFields s b.recipe) b.length eb dt b.ts b.tc).1
        tc := (twoNode (recipeFields s b.recipe) b.length eb dt b.ts b.tc).2
        marks :=
          { b.marks with
            overheated :=
              decide
                (b.marks.overheated = true ∨
                  b.recipe ≠ 0 ∧
                    (recipeFields s b.recipe).tsMax <
                      (twoNode (recipeFields s b.recipe) b.length eb dt b.ts b.tc).1)
            overdwell :=
              decide
                (b.marks.overdwell = true ∨
                  b.recipe ≠ 0 ∧ (recipeFields s b.recipe).maxDwell < s.secs - b.entryTime) } } := by
  have hor : ∀ (m : Bool) (n : Nat) (p : Prop) [Decidable p],
      (m || (n != 0 && decide p)) = decide (m = true ∨ n ≠ 0 ∧ p) := fun m n p _ => by
    rw [Bool.eq_iff_iff]
    simp
  unfold updateBillet testMarks overheats overdwells dwell
  dsimp only
  rw [hor, hor]

theorem updateRowBillet_estimate (s : State) (r : RoundRecord) (dt : Nat) (b : Billet) :
    (updateRowBillet s r dt b).estimate = if touchesVoid s r b = true then .untracked else b.estimate := by
  unfold updateRowBillet
  split <;> rfl

theorem updateRowBillet_tracked (s : State) (r : RoundRecord) (dt : Nat) (b : Billet) :
    { updateRowBillet s r dt b with estimate := b.estimate } = updateBillet s dt (recordEnergy s r b) b := by
  unfold updateRowBillet
  split <;> rfl

/-! ### The front after a round record (R46) -/

/-- The gate with another verdict of its front. -/
def withFrontVerdict (v : Verdict) : List GateBillet → List GateBillet
  | [] => []
  | g :: rest => { g with verdict := v } :: rest

theorem withFrontVerdict_getElem? (v : Verdict) (gate : List GateBillet) (k : Nat) :
    (withFrontVerdict v gate)[k]? = (gate[k]?).map fun g => if k = 0 then { g with verdict := v } else g := by
  cases gate with
  | nil => rfl
  | cons g rest =>
    cases k with
    | zero => rfl
    | succ k =>
      show rest[k]? = (rest[k]?).map _
      simp

theorem withFrontVerdict_head? (v : Verdict) (gate : List GateBillet) :
    (withFrontVerdict v gate).head? = gate.head?.map fun g => { g with verdict := v } := by
  cases gate <;> rfl

theorem withFrontVerdict_length (v : Verdict) (gate : List GateBillet) : (withFrontVerdict v gate).length = gate.length := by
  cases gate <;> rfl

/-- The kinds that a round record raises (R51, R106, R118). -/
def roundKinds (s : State) (r : RoundRecord) (v : Verdict) : KindSet :=
  kindIf (idlePower s r = true) .idlePower ||| kindIf (roundUntracks s r = true) .untracked |||
    kindIf (roundOverheats s r = true) .overheat |||
    (kindIf (∃ g ∈ s.trk.gate.head?, v ≠ g.verdict) .verdict |||
      kindIf (∃ g ∈ s.trk.gate.head?, LosesReservation g v s) .resLost)

/-- A round record taken: the records are updated, and the front holds a verdict. -/
structure RoundTaken (r : RoundRecord) (s t : State) (v : Verdict) : Prop where
  trk : t.trk = { updatedTrack s r with gate := withFrontVerdict v (updatedTrack s r).gate }
  est : t.est = { s.est with lastRound := some s.ms, rounds := dropTaken r s.est.rounds }
  phu : t.phu = if ∃ g ∈ s.trk.gate.head?, LosesReservation g v s then none else s.phu
  rest : (((t.withTrk s.trk).withEst s.est).withNtc s.ntc).withPhu s.phu = s
  raises : Raises (roundKinds s r v) s.ntc t.ntc
  verdict : ∀ g ∈ s.trk.gate.head?,
    v = if g.verdict = .ready ∨ g.verdict = .under then
        evaluate (recipeFields s g.billet.recipe) (updateBillet s (roundInterval s) 0 g.billet) s.evu.exitM
      else g.verdict

theorem updateRecords_raises (r : RoundRecord) (s : State) :
    ∃ n, updateRecords r s =
        ((s.withTrk (updatedTrack s r)).withEst
          { s.est with lastRound := some s.ms, rounds := dropTaken r s.est.rounds }).withNtc n ∧
      Raises
        (kindIf (idlePower s r = true) .idlePower ||| kindIf (roundUntracks s r = true) .untracked |||
          kindIf (roundOverheats s r = true) .overheat) s.ntc n := by
  obtain ⟨n1, he1, h1⟩ := raiseIf_raises (idlePower s r) .idlePower
    ((s.withTrk (updatedTrack s r)).withEst
      { s.est with lastRound := some s.ms, rounds := dropTaken r s.est.rounds })
  obtain ⟨n2, he2, h2⟩ := raiseIf_raises (roundUntracks s r) .untracked
    (((s.withTrk (updatedTrack s r)).withEst
      { s.est with lastRound := some s.ms, rounds := dropTaken r s.est.rounds }).withNtc n1)
  obtain ⟨n3, he3, h3⟩ := raiseIf_raises (roundOverheats s r) .overheat
    (((s.withTrk (updatedTrack s r)).withEst
      { s.est with lastRound := some s.ms, rounds := dropTaken r s.est.rounds }).withNtc n2)
  refine ⟨n3, ?_, (h1.trans h2).trans h3⟩
  unfold updateRecords
  dsimp only
  rw [he1, he2]
  exact he3

theorem takeRound_taken (r : RoundRecord) (s : State) : ∃ v, RoundTaken r s (takeRound r s) v := by
  obtain ⟨n, he, hn⟩ := updateRecords_raises r s
  unfold takeRound
  rw [he]
  cases hg : s.trk.gate with
  | nil =>
    have hgate : (updatedTrack s r).gate = [] := congrArg (List.map _) hg
    have hre : ∀ u : State, u.trk = updatedTrack s r → reevaluate u = u := fun u hu => by
      unfold reevaluate
      rw [gateFront_nil (by rw [hu]; exact hgate)]
    have hkinds : roundKinds s r .pending =
        kindIf (idlePower s r = true) .idlePower ||| kindIf (roundUntracks s r = true) .untracked |||
          kindIf (roundOverheats s r = true) .overheat := by
      simp [roundKinds, hg, kindIf]
    rw [hre _ rfl]
    refine ⟨.pending, ⟨?_, rfl, ?_, ?_, hkinds ▸ hn, ?_⟩⟩
    · show updatedTrack s r = _
      rw [hgate]
      exact congrArg (fun gate => ({ updatedTrack s r with gate := gate } : Track)) hgate
    · simp [hg]
    · simp only [State.withTrk, State.withEst, State.withNtc, State.withPhu]
    · simp [hg]
  | cons g rest =>
    obtain ⟨v, hv⟩ : ∃ v, v =
        if g.verdict = .ready ∨ g.verdict = .under then
          evaluate (recipeFields s g.billet.recipe) (updateBillet s (roundInterval s) 0 g.billet) s.evu.exitM
        else g.verdict := ⟨_, rfl⟩
    obtain ⟨m, hm, hr⟩ := reevaluate_holds
      (s := ((s.withTrk (updatedTrack s r)).withEst
        { s.est with lastRound := some s.ms, rounds := dropTaken r s.est.rounds }).withNtc n)
      (congrArg (List.map (updateGateBillet s (roundInterval s))) hg) hv
    have hgate : (updatedTrack s r).gate =
        updateGateBillet s (roundInterval s) g :: rest.map (updateGateBillet s (roundInterval s)) :=
      congrArg (List.map (updateGateBillet s (roundInterval s))) hg
    have hkinds : roundKinds s r v =
        kindIf (idlePower s r = true) .idlePower ||| kindIf (roundUntracks s r = true) .untracked |||
          kindIf (roundOverheats s r = true) .overheat ||| verdictKinds g v s := by
      simp [roundKinds, verdictKinds, hg]
    rw [hm]
    refine ⟨v, ⟨?_, rfl, ?_, ?_, hkinds ▸ hn.trans hr, ?_⟩⟩
    · rw [hgate]
      rfl
    · simp only [hg, List.head?_cons, Option.mem_some_iff, exists_eq_left']
      rfl
    · simp only [frontHolds, State.withTrk, State.withEst, State.withNtc, State.withPhu]
    · rw [hg]
      rintro g' ⟨⟩
      exact hv

/-! ### What O45 and O46 ask of the round record taken -/

/-- The records of a list and of its image, place by place. -/
theorem exists_getElem?_map_iff {α β : Type} {l : List α} {f : α → β} {P : α → β → Prop} :
    (∃ (k : Nat) (a : α) (b : β), l[k]? = some a ∧ (l.map f)[k]? = some b ∧ P a b) ↔ ∃ a ∈ l, P a (f a) := by
  constructor
  · rintro ⟨k, a, b, ha, hb, hp⟩
    rw [List.getElem?_map, ha, Option.map_some, Option.some_inj] at hb
    exact ⟨a, List.mem_of_getElem? ha, hb ▸ hp⟩
  · rintro ⟨a, ha, hp⟩
    obtain ⟨k, hk⟩ := List.mem_iff_getElem?.1 ha
    exact ⟨k, a, f a, hk, by rw [List.getElem?_map, hk, Option.map_some], hp⟩

theorem newlyOverheated_iff (b c : Billet) :
    newlyOverheated b c = true ↔ b.marks.overheated = false ∧ c.marks.overheated = true := by
  unfold newlyOverheated
  rw [Bool.and_eq_true, Bool.not_eq_true', and_comm]

/-- The five kinds of a round record stand in five bits. -/
theorem roundKinds_bits : ∀ a b c d e : Bool,
    let kinds := kindIf (a = true) .idlePower ||| kindIf (b = true) .untracked ||| kindIf (c = true) .overheat |||
      (kindIf (d = true) .verdict ||| kindIf (e = true) .resLost)
    (kinds &&& Notice.untracked.bit ≠ 0 ↔ b = true) ∧ (kinds &&& Notice.idlePower.bit ≠ 0 ↔ a = true) ∧
      (kinds &&& Notice.overheat.bit ≠ 0 ↔ c = true) ∧ (kinds &&& Notice.verdict.bit ≠ 0 ↔ d = true) ∧
      (kinds &&& Notice.resLost.bit ≠ 0 ↔ e = true) ∧
      kinds &&&
          ~~~(Notice.untracked.bit ||| Notice.idlePower.bit ||| Notice.overheat.bit ||| Notice.verdict.bit |||
            Notice.resLost.bit) = 0 ∧
      kinds &&& (Notice.verdict.bit ||| Notice.resLost.bit) =
        kindIf (d = true) .verdict ||| kindIf (e = true) .resLost := by
  decide

/-- The bits of the kinds that a round record raises. -/
theorem roundKinds_iff (s : State) (r : RoundRecord) (v : Verdict) :
    (roundKinds s r v &&& Notice.untracked.bit ≠ 0 ↔ roundUntracks s r = true) ∧
      (roundKinds s r v &&& Notice.idlePower.bit ≠ 0 ↔ idlePower s r = true) ∧
      (roundKinds s r v &&& Notice.overheat.bit ≠ 0 ↔ roundOverheats s r = true) ∧
      (roundKinds s r v &&& Notice.verdict.bit ≠ 0 ↔ ∃ g ∈ s.trk.gate.head?, v ≠ g.verdict) ∧
      (roundKinds s r v &&& Notice.resLost.bit ≠ 0 ↔ ∃ g ∈ s.trk.gate.head?, LosesReservation g v s) ∧
      roundKinds s r v &&&
          ~~~(Notice.untracked.bit ||| Notice.idlePower.bit ||| Notice.overheat.bit ||| Notice.verdict.bit |||
            Notice.resLost.bit) = 0 ∧
      roundKinds s r v &&& (Notice.verdict.bit ||| Notice.resLost.bit) =
        kindIf (∃ g ∈ s.trk.gate.head?, v ≠ g.verdict) .verdict |||
          kindIf (∃ g ∈ s.trk.gate.head?, LosesReservation g v s) .resLost := by
  have hbits := roundKinds_bits (idlePower s r) (roundUntracks s r) (roundOverheats s r)
    (decide (∃ g ∈ s.trk.gate.head?, v ≠ g.verdict)) (decide (∃ g ∈ s.trk.gate.head?, LosesReservation g v s))
  dsimp only at hbits
  rw [kindIf_congr (q := ∃ g ∈ s.trk.gate.head?, v ≠ g.verdict) decide_eq_true_iff,
    kindIf_congr (q := ∃ g ∈ s.trk.gate.head?, LosesReservation g v s) decide_eq_true_iff,
    decide_eq_true_iff, decide_eq_true_iff] at hbits
  exact hbits

namespace RoundTaken

variable {r : RoundRecord} {s t : State} {v : Verdict}

theorem row_eq (h : RoundTaken r s t v) : t.trk.row = s.trk.row.map (updateRowBillet s r (roundInterval s)) := by
  rw [h.trk]
  rfl

theorem gate_eq (h : RoundTaken r s t v) :
    t.trk.gate = withFrontVerdict v (s.trk.gate.map (updateGateBillet s (roundInterval s))) := by
  rw [h.trk]
  rfl

theorem gate_getElem? (h : RoundTaken r s t v) {k : Nat} {g : GateBillet} (hg : s.trk.gate[k]? = some g) :
    t.trk.gate[k]? =
      some
        (if k = 0 then { updateGateBillet s (roundInterval s) g with verdict := v }
         else updateGateBillet s (roundInterval s) g) := by
  rw [h.gate_eq, withFrontVerdict_getElem?, List.getElem?_map, hg]
  rfl

theorem gate_head? (h : RoundTaken r s t v) {g : GateBillet} (hg : s.trk.gate.head? = some g) :
    t.trk.gate.head? = some { updateGateBillet s (roundInterval s) g with verdict := v } := by
  rw [h.gate_eq, withFrontVerdict_head?, List.head?_map, hg]
  rfl

theorem gate_head?_iff (h : RoundTaken r s t v) {P : GateBillet → Verdict → Prop} :
    (∃ g x, s.trk.gate.head? = some g ∧ t.trk.gate.head? = some x ∧ P g x.verdict) ↔
      ∃ g ∈ s.trk.gate.head?, P g v := by
  constructor
  · rintro ⟨g, x, hg, hx, hp⟩
    rw [h.gate_head? hg, Option.some_inj] at hx
    subst hx
    exact ⟨g, hg, hp⟩
  · rintro ⟨g, hg, hp⟩
    exact ⟨g, _, hg, h.gate_head? hg, hp⟩

theorem verdict_kept (h : RoundTaken r s t v) {g : GateBillet} (hg : s.trk.gate.head? = some g)
    (hne : v ≠ g.verdict) : g.verdict = .ready ∨ g.verdict = .under := by
  by_contra hn
  exact hne ((h.verdict g hg).trans (if_neg hn))

theorem overheats_iff (h : RoundTaken r s t v) :
    roundOverheats s r = true ↔
      (∃ (k : Nat) (b c : Billet), s.trk.row[k]? = some b ∧ t.trk.row[k]? = some c ∧
        b.marks.overheated = false ∧ c.marks.overheated = true) ∨
      ∃ (k : Nat) (g x : GateBillet), s.trk.gate[k]? = some g ∧ t.trk.gate[k]? = some x ∧
        g.billet.marks.overheated = false ∧ x.billet.marks.overheated = true := by
  have hgate : (∃ (k : Nat) (g x : GateBillet), s.trk.gate[k]? = some g ∧ t.trk.gate[k]? = some x ∧
        g.billet.marks.overheated = false ∧ x.billet.marks.overheated = true) ↔
      ∃ g ∈ s.trk.gate, g.billet.marks.overheated = false ∧
        (updateGateBillet s (roundInterval s) g).billet.marks.overheated = true := by
    constructor
    · rintro ⟨k, g, x, hg, hx, hp⟩
      rw [h.gate_getElem? hg, Option.some_inj] at hx
      refine ⟨g, List.mem_of_getElem? hg, hp.1, ?_⟩
      rw [← hp.2, ← hx]
      split_ifs <;> rfl
    · rintro ⟨g, hg, hp⟩
      obtain ⟨k, hk⟩ := List.mem_iff_getElem?.1 hg
      refine ⟨k, g, _, hk, h.gate_getElem? hk, hp.1, ?_⟩
      rw [← hp.2]
      split_ifs <;> rfl
  rw [h.row_eq, exists_getElem?_map_iff, hgate]
  unfold roundOverheats
  simp only [Bool.or_eq_true, List.any_eq_true, newlyOverheated_iff]

end RoundTaken

/-- Settles O45: `takeRound_taken`, clause by clause. -/
theorem roundRecordUpdates : Obligations.RoundRecordUpdates := by
  intro r s dt h0 h1 updated inVoid
  obtain ⟨v, h⟩ := takeRound_taken r s
  obtain rfl := roundInterval_eq h0 h1
  have hupdated : ∀ b eb, updateBillet s (roundInterval s) eb b = updated b eb := fun b eb => updateBillet_eq ..
  obtain ⟨huntracked, hidle, hoverheat, hverdict, hlost, hothers, -⟩ := roundKinds_iff s r v
  refine ⟨_, rfl, ?_, ?_, fun k g hg => ⟨_, h.gate_getElem? hg, ?_, fun hne => ?_⟩, ?_, fun k b hb =>
    ⟨updateRowBillet s r (roundInterval s) b, ?_, ?_, fun hv => ?_, fun hv => ?_⟩,
    ⟨_, h.raises, huntracked.trans (roundUntracks_iff s r), hidle.trans (idlePower_iff s r),
      hoverheat.trans h.overheats_iff, hverdict.trans (h.gate_head?_iff (P := fun g v => v ≠ g.verdict)).symm, hlost.trans
        (h.gate_head?_iff (P := fun g v => LosesReservation g v s)).symm,
      hothers⟩, h.rest, ?_, fun hg => ?_, fun g x hg hx => ?_⟩
  · rw [← dropTaken_eq]
    exact h.est
  · rw [h.gate_eq, withFrontVerdict_length, List.length_map]
  · rw [← hupdated]
    split_ifs <;> rfl
  · by_cases hk : k = 0
    · subst hk
      rw [if_pos rfl] at hne
      exact ⟨rfl, h.verdict_kept (List.head?_eq_getElem? .. ▸ hg) hne⟩
    · rw [if_neg hk] at hne
      exact absurd rfl hne
  · rw [h.row_eq, List.length_map]
  · rw [h.row_eq, List.getElem?_map, hb]
    rfl
  · rw [updateRowBillet_tracked, hupdated]
    rfl
  · rw [updateRowBillet_estimate, if_pos ((touchesVoid_iff s r b).2 hv)]
  · rw [updateRowBillet_estimate, if_neg (mt (touchesVoid_iff s r b).1 hv)]
  · rw [h.trk]
    rfl
  · rw [h.phu, if_neg]
    simp [hg]
  · rw [h.gate_head? hg, Option.some_inj] at hx
    rw [h.phu, ← hx]
    refine if_congr ?_ rfl rfl
    simp [hg]

/-- Settles O46: the verdict of `takeRound_taken`. -/
theorem roundReevaluatesFront : Obligations.RoundReevaluatesFront := by
  intro r s g rest hg hprov
  obtain ⟨v, h⟩ := takeRound_taken r s
  have hhead : s.trk.gate.head? = some g := by rw [hg]; rfl
  have hiff : ∀ {P : GateBillet → Prop}, (∃ x ∈ s.trk.gate.head?, P x) ↔ P g := by simp [hg]
  obtain ⟨-, -, -, -, -, -, hkinds⟩ := roundKinds_iff s r v
  refine ⟨_, { updateGateBillet s (roundInterval s) g with verdict := v },
    rest.map (updateGateBillet s (roundInterval s)), rfl, ?_, ?_, ?_, ⟨_, h.raises, ?_⟩, ?_, h.rest⟩
  · rw [h.gate_eq, hg]
    rfl
  · rw [List.map_map]
    rfl
  · exact (h.verdict g hhead).trans (if_pos hprov)
  · rw [hkinds, kindIf_congr hiff, kindIf_congr hiff]
    rfl
  · rw [h.phu]
    exact if_congr hiff rfl rfl

end Sys2Proof.Machine
end

section
/-! PROOFS. What a measurement correction does (R47, R48). -/

namespace Sys2Proof.Machine

/-- The track after a correction of the record with a tag. -/
def correctedTrack (s : State) (tag : Nat) (f : Billet → Billet) : Track :=
  { s.trk with
    row := s.trk.row.map fun b => if b.tag = tag then f b else b
    gate := s.trk.gate.map fun g => { g with billet := if g.billet.tag = tag then f g.billet else g.billet } }

theorem updateTag_eq (tag : Nat) (f : Billet → Billet) (s : State) :
    updateTag tag f s = s.withTrk (correctedTrack s tag f) := by
  have hgate : (fun g : GateBillet => if g.billet.tag = tag then { g with billet := f g.billet } else g) =
      fun g => { g with billet := if g.billet.tag = tag then f g.billet else g.billet } := funext fun g => by
    split_ifs <;> rfl
  unfold updateTag correctedTrack
  rw [hgate]

theorem applyCorrection_eq (c : Correction) (s : State) :
    applyCorrection c s =
      (s.withTrk (correctedTrack s c.tag (correctBillet s c.source c.sample))).withEst
        { s.est with
          corrections :=
            if s.est.corrections.head? = some c then s.est.corrections.tail else s.est.corrections } := by
  unfold applyCorrection
  rw [updateTag_eq, dropTaken_eq]
  rfl

theorem afterExit_stored {s : State} (h : s.evu.phase = .noFront ∨ s.evu.phase = .settling) (m : Option Nat) :
    afterExit m s = s := by
  unfold afterExit
  obtain h | h := h <;> rw [h]

theorem takeCorrection_a {c : Correction} {s : State} (h : c.source = .a) :
    takeCorrection c s = applyCorrection c s := by
  unfold takeCorrection
  rw [h]

/-- A correction from source B of another record than the front, or of a front not yet AWAITING, decides nothing. -/
theorem takeCorrection_silent {c : Correction} {s : State}
    (h : (∀ g, s.trk.gate.head? = some g → g.billet.tag ≠ c.tag) ∨ s.evu.phase = .noFront ∨
      s.evu.phase = .settling) :
    takeCorrection c s = applyCorrection c s := by
  cases hsrc : c.source with
  | a => exact takeCorrection_a hsrc
  | b =>
    unfold takeCorrection
    rw [hsrc]
    dsimp only
    obtain h | h := h
    · refine if_neg ?_
      rw [applyCorrection_eq, Option.any_eq_true]
      rintro ⟨x, hx, htag⟩
      obtain ⟨g, hg, rfl⟩ := Option.map_eq_some_iff.1 (List.head?_map.symm.trans hx)
      refine h g hg ?_
      have htag := beq_iff_eq.1 htag
      dsimp only at htag
      rwa [if_neg (h g hg)] at htag
    · have hphase : (applyCorrection c s).evu.phase = .noFront ∨ (applyCorrection c s).evu.phase = .settling := by
        rw [applyCorrection_eq]
        exact h
      rw [afterExit_stored hphase, ite_self]

/-- A correction from source B of the front is followed by EVU. -/
theorem takeCorrection_front {c : Correction} {s : State} {g : GateBillet} {rest : List GateBillet}
    (h : c.source = .b) (hg : s.trk.gate = g :: rest) (htag : g.billet.tag = c.tag) :
    takeCorrection c s = afterExit c.sample (applyCorrection c s) := by
  have hfront : (gateFront (applyCorrection c s)).any (fun g => g.billet.tag == c.tag) = true := by
    rw [applyCorrection_eq]
    unfold gateFront correctedTrack
    simp [hg, htag, correctBillet]
  unfold takeCorrection
  rw [h]
  exact if_pos hfront

/-- Settles O47: `applyCorrection_eq`, and what EVU does after it. -/
theorem correctionMovesSurface : Obligations.CorrectionMovesSurface := by
  intro c s trusted corrected records taken
  have hcorrected : ∀ b, (if b.tag = c.tag then correctBillet s c.source c.sample b else b) = corrected b := fun b => by
    have htrust : trust s c.source = trusted := by
      simp only [trusted]
      cases c.source <;> rfl
    simp only [corrected]
    refine if_congr Iff.rfl ?_ rfl
    unfold correctBillet correctedTs
    rw [htrust]
    cases c.sample <;> rfl
  have htrack : correctedTrack s c.tag (correctBillet s c.source c.sample) = records := by
    unfold correctedTrack
    simp only [hcorrected]
    rfl
  have happly : applyCorrection c s = (s.withTrk records).withEst taken := by
    rw [applyCorrection_eq, htrack]
  refine ⟨fun h => ?_, fun g rest hsrc hg htag => ?_⟩
  · refine congrArg Host.Outcome.next (?_ : takeCorrection c s = _)
    obtain h | h := h
    · rw [takeCorrection_a h, happly]
    · rw [takeCorrection_silent h, happly]
  · intro b
    have hb : b = correctBillet s c.source c.sample g.billet := (hcorrected g.billet).symm.trans (if_pos htag)
    have hgate : records.gate = { g with billet := b } :: rest.map fun g => { g with billet := corrected g.billet } :=
      congrArg (List.map fun g : GateBillet => ({ g with billet := corrected g.billet } : GateBillet)) hg
    clear_value b
    subst hb
    intro exitM now front
    have htaken := takeCorrection_front hsrc hg htag
    rw [happly] at htaken
    refine ⟨fun hp => ?_, fun hp => ?_⟩
    · obtain ⟨n, he, hr⟩ := afterExit_awaiting (s := (s.withTrk records).withEst taken) hgate hp c.sample
      refine ⟨_, congrArg Host.Outcome.next (htaken.trans he), rfl, rfl, hr, rfl, ?_⟩
      simp only [State.withTrk, State.withEvu, State.withNtc, State.withEst]
    · obtain ⟨n, he, hr⟩ := afterExit_decided (s := (s.withTrk records).withEst taken) hgate hp c.sample rfl
      refine ⟨_, _, congrArg Host.Outcome.next (htaken.trans he), rfl, rfl, rfl, hr, rfl, rfl, ?_⟩
      simp only [frontHolds, State.withTrk, State.withEvu, State.withNtc, State.withEst, State.withPhu]

end Sys2Proof.Machine
end

section
/-! PROOFS. The frame that sends a command is decoded to it (R132, R150). -/

namespace Sys2Proof.Machine

/-! ### Numbers in bytes -/

theorem ofLeBytes_leBytes {n v : Nat} (h : fits n v = true) : ofLeBytes (leBytes n v) = v := by
  have h : v < 256 ^ n := of_decide_eq_true h
  induction n generalizing v with
  | zero =>
    have h0 : v < 1 := h
    show 0 = v
    omega
  | succ n ih =>
    rw [pow_succ] at h
    show (BitVec.ofNat 8 v).toNat + 256 * ofLeBytes (leBytes n (v / 256)) = v
    rw [ih (decide_eq_true (Nat.div_lt_of_lt_mul (by omega))) (Nat.div_lt_of_lt_mul (by omega)), BitVec.toNat_ofNat]
    omega

/-- The number that comes first. -/
theorem numAt_head {n v : Nat} (h : fits n v = true) (more : List Byte) : numAt (leBytes n v ++ more) 0 n = v := by
  unfold numAt
  rw [List.drop_zero, List.take_left' (leBytes_length n v), ofLeBytes_leBytes h]

theorem numAt_only {n v : Nat} (h : fits n v = true) : numAt (leBytes n v) 0 n = v := by
  rw [← List.append_nil (leBytes n v), numAt_head h]

/-- A number that stands behind another. -/
theorem numAt_skip {k off : Nat} (h : k ≤ off) (v n : Nat) (more : List Byte) :
    numAt (leBytes k v ++ more) off n = numAt more (off - k) n := by
  unfold numAt
  rw [List.drop_append, leBytes_length, List.drop_of_length_le (by rw [leBytes_length]; exact h), List.nil_append]

theorem fits_toNat {w n : Nat} (h : 2 ^ w ≤ 256 ^ n) (k : BitVec w) : fits n k.toNat = true :=
  decide_eq_true (k.isLt.trans_le h)

/-! ### The items of each payload (R132, R150) -/

/-- A payload of the items that are well formed has a length that the table gives the code, and is parsed to
them. -/
structure Carries {α : Type} (code : Nat) (enc : α → List Byte) (parse : List Byte → α) (ok : α → Bool) : Prop where
  length : ∀ a, ok a = true → (enc a).length + 2 ∈ commandLens code
  parse : ∀ a, ok a = true → parse (enc a) = a

theorem carries_nothing {code : Nat} (h : 2 ∈ commandLens code) :
    Carries code (fun _ => []) (fun _ => ()) fun _ => true :=
  ⟨fun _ _ => h, fun _ _ => rfl⟩

theorem carries_number {code n : Nat} (h : n + 2 ∈ commandLens code) :
    Carries code (leBytes n) (fun p => numAt p 0 n) (fits n) :=
  ⟨fun v _ => by rwa [leBytes_length], fun _ hv => numAt_only hv⟩

theorem carries_bits {code n w : Nat} (h : n + 2 ∈ commandLens code) (hw : 2 ^ w ≤ 256 ^ n) :
    Carries code (fun k : BitVec w => leBytes n k.toNat) (fun p => BitVec.ofNat w (numAt p 0 n)) fun _ => true where
  length k _ := by rwa [leBytes_length]
  parse k _ := by rw [numAt_only (fits_toNat hw k), BitVec.ofNat_toNat, BitVec.setWidth_eq]

theorem parseAddress_append {a : AddressForm} (h : a.wf = true) (more : List Byte) :
    parseAddress (addressBytes a ++ more) = a := by
  obtain ⟨form, table, record, field⟩ := a
  simp only [AddressForm.wf, Bool.and_eq_true] at h
  obtain ⟨⟨⟨hform, htable⟩, hrecord⟩, hfield⟩ := h
  simp only [parseAddress, addressBytes, List.append_assoc, numAt_head, numAt_skip, le_refl, Nat.reduceLeDiff,
    Nat.reduceSub, hform, htable, hrecord, hfield]

theorem addressBytes_length (a : AddressForm) : (addressBytes a).length = 4 := by
  simp only [addressBytes, List.length_append, leBytes_length]

theorem carries_address : Carries 0x08 addressBytes parseAddress AddressForm.wf where
  length a _ := by rw [addressBytes_length]; decide
  parse a h := by rw [← List.append_nil (addressBytes a), parseAddress_append h]

theorem carries_deposit :
    Carries 0x09 (fun a => addressBytes a.address ++ leBytes 4 a.value) parseDeposit
      fun a => a.address.wf && fits 4 a.value where
  length a _ := by rw [List.length_append, addressBytes_length, leBytes_length]; decide
  parse a h := by
    obtain ⟨address, value⟩ := a
    obtain ⟨haddress, hvalue⟩ := Bool.and_eq_true_iff.1 h
    have hnum : numAt (addressBytes address ++ leBytes 4 value) 4 4 = value := by
      simp only [addressBytes, List.append_assoc, numAt_skip, numAt_only, Nat.reduceLeDiff, Nat.reduceSub, hvalue]
    unfold parseDeposit
    dsimp only
    rw [parseAddress_append haddress, hnum]

theorem carries_map :
    Carries 0x10 (fun a => leBytes 1 a.first ++ leBytes 1 a.count)
      (fun p => ({ first := numAt p 0 1, count := numAt p 1 1 } : MapArgs))
      fun a => fits 1 a.first && fits 1 a.count where
  length a _ := by rw [List.length_append, leBytes_length, leBytes_length]; decide
  parse a h := by
    obtain ⟨hfirst, hcount⟩ := Bool.and_eq_true_iff.1 h
    rw [numAt_head hfirst, numAt_skip le_rfl, numAt_only hcount]

theorem carries_pushDone :
    Carries 0x19 (fun a => leBytes 2 a.tag ++ leBytes 2 a.stroke)
      (fun p => ({ tag := numAt p 0 2, stroke := numAt p 2 2 } : PushDoneArgs))
      fun a => fits 2 a.tag && fits 2 a.stroke where
  length a _ := by rw [List.length_append, leBytes_length, leBytes_length]; decide
  parse a h := by
    obtain ⟨htag, hstroke⟩ := Bool.and_eq_true_iff.1 h
    rw [numAt_head htag, numAt_skip le_rfl, numAt_only hstroke]

theorem carries_lotOpen :
    Carries 0x30 (fun a => leBytes 1 a.recipe ++ leBytes 2 a.count)
      (fun p => ({ recipe := numAt p 0 1, count := numAt p 1 2 } : LotOpenArgs))
      fun a => fits 1 a.recipe && fits 2 a.count where
  length a _ := by rw [List.length_append, leBytes_length, leBytes_length]; decide
  parse a h := by
    obtain ⟨hrecipe, hcount⟩ := Bool.and_eq_true_iff.1 h
    rw [numAt_head hrecipe, numAt_skip le_rfl, numAt_only hcount]

theorem carries_push :
    Carries 0x18 pushBytes parsePush fun a =>
      fits 2 a.tag && fits 1 a.recipe && fits 2 a.length && (a.entryTemp.map (fits 2)).getD true where
  length a _ := by
    obtain ⟨tag, recipe, length, _ | temp⟩ := a
    · simp only [pushBytes, List.length_append, leBytes_length, List.length_nil]
      decide
    · simp only [pushBytes, List.length_append, leBytes_length]
      decide
  parse a h := by
    obtain ⟨tag, recipe, length, temp⟩ := a
    simp only [Bool.and_eq_true] at h
    obtain ⟨⟨⟨htag, hrecipe⟩, hlength⟩, htemp⟩ := h
    cases temp with
    | none =>
      simp only [pushBytes, parsePush, List.append_assoc, List.length_append, leBytes_length, List.length_nil,
        numAt_head, numAt_skip, le_refl, Nat.reduceLeDiff, Nat.reduceSub, htag, hrecipe, hlength]
      rfl
    | some t =>
      have ht : fits 2 t = true := htemp
      simp only [pushBytes, parsePush, List.append_assoc, List.length_append, leBytes_length,
        numAt_head, numAt_only, numAt_skip, le_refl, Nat.reduceLeDiff, Nat.reduceSub, htag, hrecipe, hlength, ht]
      rfl

theorem carries_load : Carries 0x0A loadBytes parseLoad fun a => fits 1 a.slot && a.fields.wf where
  length a _ := by
    simp only [loadBytes, List.length_append, leBytes_length, length_flatten_leBytes]
    decide
  parse a h := by
    obtain ⟨slot, cap, surf, skin, cond, loss, lnom, ⟨z1, z2, z3, z4, z5, z6, z7, z8⟩, tsLo, tsHi, tcMin, tsMax, holdT,
      holdH, maxDwell, spacers, accept⟩ := a
    simp only [RecipeFields.wf, PerZone.toList, List.all_cons, List.all_nil, Bool.and_eq_true, and_assoc, and_true] at h
    obtain ⟨hslot, hcap, hsurf, hskin, hcond, hloss, hlnom, h1, h2, h3, h4, h5, h6, h7, h8, htsLo, htsHi, htcMin, htsMax,
      hholdT, hholdH, hdwell, hspacers, haccept⟩ := h
    simp only [loadBytes, parseLoad, PerZone.toList, List.map_cons, List.map_nil, List.flatten_cons, List.flatten_nil,
      List.append_nil, List.append_assoc, numAt_head, numAt_only, numAt_skip, le_refl, Nat.reduceLeDiff, Nat.reduceSub, *]

/-! ### The round trip -/

/-- A command whose payload carries its items is decoded to itself. -/
theorem roundTrip_of_carries {α : Type} {code : Nat} {enc : α → List Byte} {parse : List Byte → α} {ok : α → Bool}
    {st : Station} {mk : Sent α → Instr} {p : Sent α} {cmd : Byte} {payload : List Byte}
    (hc : Carries code enc parse ok) (hwf : p.wf code ok = true)
    (henc : encodeRequest (mk p) = some (cmd, payload))
    (hcode : (mk p).code = some code) (hpayload : requestPayload (mk p) = sentBytes enc p)
    (hnat : (BitVec.ofNat 8 code).toNat = code)
    (hdec : ∀ q, decodeRequest st (BitVec.ofNat 8 code) q = mk (sentItems code parse q)) :
    payload.length + 2 ∈ commandLens cmd.toNat ∧ decodeRequest st cmd payload = mk p := by
  unfold encodeRequest at henc
  rw [hcode, hpayload] at henc
  cases p with
  | wrongLength len => cases henc
  | items a =>
    obtain ⟨rfl, rfl⟩ := Prod.mk.inj (Option.some_inj.1 henc)
    have hlen := hc.length a hwf
    refine ⟨by rwa [hnat], ?_⟩
    rw [hdec, sentItems, if_pos hlen, hc.parse a hwf]

/-- Settles O54: each command by what its payload carries; no event is sent as a frame. -/
theorem requestRoundTrip : Obligations.RequestRoundTrip := by
  intro i st cmd payload hwf hst henc
  cases i with
  | noticeRead st' p =>
    cases hst
    exact roundTrip_of_carries (mk := .noticeRead st) (carries_nothing (by decide)) hwf henc rfl rfl rfl fun _ => rfl
  | noticeClear st' p =>
    cases hst
    exact roundTrip_of_carries (mk := .noticeClear st) (carries_bits (by decide) (by decide)) hwf henc rfl rfl rfl
      fun _ => rfl
  | noticeMask st' p =>
    cases hst
    exact roundTrip_of_carries (mk := .noticeMask st) (carries_bits (by decide) (by decide)) hwf henc rfl rfl rfl
      fun _ => rfl
  | examine st' p =>
    cases hst
    exact roundTrip_of_carries (mk := .examine st) carries_address hwf henc rfl rfl rfl fun _ => rfl
  | deposit st' p =>
    cases hst
    exact roundTrip_of_carries (mk := .deposit st) carries_deposit hwf henc rfl rfl rfl fun _ => rfl
  | loadRecipe st' p =>
    cases hst
    exact roundTrip_of_carries (mk := .loadRecipe st) carries_load hwf henc rfl rfl rfl fun _ => rfl
  | map st' p =>
    cases hst
    exact roundTrip_of_carries (mk := .map st) carries_map hwf henc rfl rfl rfl fun _ => rfl
  | billet st' p =>
    cases hst
    exact roundTrip_of_carries (mk := .billet st) (carries_number (by decide)) hwf henc rfl rfl rfl fun _ => rfl
  | classify st' p =>
    cases hst
    exact roundTrip_of_carries (mk := .classify st) (carries_bits (by decide) (by decide)) hwf henc rfl rfl rfl
      fun _ => rfl
  | pushRequest st' p =>
    cases hst
    exact roundTrip_of_carries (mk := .pushRequest st) carries_push hwf henc rfl rfl rfl fun _ => rfl
  | pushDone st' p =>
    cases hst
    exact roundTrip_of_carries (mk := .pushDone st) carries_pushDone hwf henc rfl rfl rfl fun _ => rfl
  | pushCancel st' p =>
    cases hst
    exact roundTrip_of_carries (mk := .pushCancel st) (carries_number (by decide)) hwf henc rfl rfl rfl fun _ => rfl
  | resync st' p =>
    cases hst
    exact roundTrip_of_carries (mk := .resync st) (carries_number (by decide)) hwf henc rfl rfl rfl fun _ => rfl
  | purge st' p =>
    cases hst
    exact roundTrip_of_carries (mk := .purge st) (carries_nothing (by decide)) hwf henc rfl rfl rfl fun _ => rfl
  | reserve st' p =>
    cases hst
    exact roundTrip_of_carries (mk := .reserve st) (carries_nothing (by decide)) hwf henc rfl rfl rfl fun _ => rfl
  | take st' p =>
    cases hst
    exact roundTrip_of_carries (mk := .take st) (carries_number (by decide)) hwf henc rfl rfl rfl fun _ => rfl
  | discard st' p =>
    cases hst
    exact roundTrip_of_carries (mk := .discard st) (carries_number (by decide)) hwf henc rfl rfl rfl fun _ => rfl
  | cadence st' p =>
    cases hst
    exact roundTrip_of_carries (mk := .cadence st) (carries_number (by decide)) hwf henc rfl rfl rfl fun _ => rfl
  | run st' p =>
    cases hst
    exact roundTrip_of_carries (mk := .run st) (carries_nothing (by decide)) hwf henc rfl rfl rfl fun _ => rfl
  | stop st' p =>
    cases hst
    exact roundTrip_of_carries (mk := .stop st) (carries_nothing (by decide)) hwf henc rfl rfl rfl fun _ => rfl
  | zoneRestore st' p =>
    cases hst
    exact roundTrip_of_carries (mk := .zoneRestore st) (carries_number (by decide)) hwf henc rfl rfl rfl fun _ => rfl
  | dispatchStatus st' p =>
    cases hst
    exact roundTrip_of_carries (mk := .dispatchStatus st) (carries_nothing (by decide)) hwf henc rfl rfl rfl
      fun _ => rfl
  | lotOpen st' p =>
    cases hst
    exact roundTrip_of_carries (mk := .lotOpen st) carries_lotOpen hwf henc rfl rfl rfl fun _ => rfl
  | lotAdjust st' p =>
    cases hst
    exact roundTrip_of_carries (mk := .lotAdjust st) (carries_bits (by decide) (by decide)) hwf henc rfl rfl rfl
      fun _ => rfl
  | lotAbort st' p =>
    cases hst
    exact roundTrip_of_carries (mk := .lotAbort st) (carries_nothing (by decide)) hwf henc rfl rfl rfl fun _ => rfl
  | lotStatus st' p =>
    cases hst
    exact roundTrip_of_carries (mk := .lotStatus st) (carries_nothing (by decide)) hwf henc rfl rfl rfl fun _ => rfl
  | _ => cases henc

end Sys2Proof.Machine
end
